-- ==== Sys2Proof/Word.lean ====
section
/-! DEFINITION. The two word widths of ID01-FCC: the byte (00_scope R7, `BYTE_BITS` = 8) and the TagWord
(00_scope R6, `TAGWORD_BITS` = 16). -/

namespace Sys2Proof

/-- An element of a frame, payload, command or reply (00_scope R7). -/
abbrev Byte := BitVec 8

/-- A 16-bit value of tag memory (20_memory R53). -/
abbrev TagWord := BitVec 16

end Sys2Proof
end

