-- ==== Sys2Proof/Machine/Ports.lean ====
section
/-! DEFINITION. The plain data that crosses the ports of ID01-FCC (92 D2) or names a place of its sequencer:
failure kinds, results, requests, transmissions, phases. -/

namespace Sys2Proof.Machine

/-- The six failure kinds (60_exceptions R180). `MalformedReply` is the class of the two mismatches. -/
inductive Failure where
  /-- bus class: the transport's answer is empty (R182) -/
  | noReply
  /-- bus class: message length is not LEN + 2 (R183) -/
  | lengthMismatch
  /-- bus class: byte sum is not 0 (R184) -/
  | checksumMismatch
  /-- bus class: the echo bytes differ (R185) -/
  | unsolicited
  /-- domain class: status byte of STOPCONT, STARTCONT, SETBUZZER not 0 (R186) -/
  | commandRejected
  /-- domain class: flag, bank echo or write status wrong (R187) -/
  | tagNotFound
deriving DecidableEq, Repr, Inhabited

/-- What `STATUS` and `LASTERR.KIND` hold (60_exceptions R181): code 0, named OK in STATUS and NONE in
LASTERR, or a failure kind. The codes 7 to 15 are never produced (10_state R21), so they have no name. -/
inductive Kind where
  | ok
  | failed (f : Failure)
deriving DecidableEq, Repr, Inhabited

/-- The result of an operation (00_scope R9): `Ok(value)` or `Err(kind)`. -/
inductive Res (α : Type) where
  | ok (a : α)
  | err (f : Failure)
deriving DecidableEq, Repr

/-- The data part of a delivered result. `none` stands with every `Err(k)` that carries no data. -/
inductive Data where
  | none
  | unit
  | byte (b : Byte)
  | bytes (s : List Byte)
  | words (ws : List TagWord)
  | version (major minor : Byte)
  /-- GETLASTERROR's answer: the code; the text is `Config.msg` of it (41 R136) -/
  | lastError (k : Kind)
deriving DecidableEq, Repr

/-- The (STATUS, result) pair delivered on H_RSP (70 R222). -/
structure Delivery where
  status : Kind
  data : Data
deriving DecidableEq, Repr

/-- What the block hands the transport on X_TX: a frame and the timeout in milliseconds (41 R132). -/
structure Transmission where
  frame : List Byte
  timeout : Nat
deriving DecidableEq, Repr

/-- The values of `PHASE` (10_state R27). -/
inductive Phase where
  | idle | enc | xchg | dec | corr
deriving DecidableEq, Repr

/-- Whose SEND is in progress: it decides how the stripped reply is read (42 R151 to R158). The model's own
register (log 9). -/
inductive Op where
  | send | raw | getversion | stopcont | startcont | setbuzzer | identify | readwords | writewords
deriving DecidableEq, Repr

/-- The operand lanes of a request on H_REQ (92 D2): the operation select and the operands of all
operations. An operation reads its own lanes (log 21). Numbers are not cut to a width: a value outside an
operand's range is a request the block refuses (42 R160). -/
structure HostReq where
  opsel : BitVec 4
  seq : List Byte := []
  words : List Nat := []
  mode : Nat := 0
  bank : Nat := 0
  addr : Nat := 0
  n : Nat := 0
  timeout : Nat := 0
deriving DecidableEq, Repr

/-- One request, in one of the spaces of spec/opcode_table.json: "host-operation" (an OPSEL code and its
operands), "wire-command" (a reader command named by its command bytes), or the reset input (log 2). -/
inductive Request where
  | host (r : HostReq)
  | command (c : List Byte)
  | reset
deriving DecidableEq, Repr

/-- What the environment drives next: a request of the host, or a new level of X_READY (10 R30). -/
inductive Input where
  | request (r : Request)
  | readyLevel (b : Bool)
deriving DecidableEq, Repr

/-- Why the decoder rejects a wire command: it is no command of the catalogue (30_encoding R73 to R88). -/
inductive Reject where
  /-- no byte at all -/
  | emptyCommand
  /-- opcode not in the catalogue of R85 (R87) -/
  | unknownOpcode
  /-- a catalogued opcode whose byte 1 is not 0x00 (R88) -/
  | reservedByte
  /-- the length is not the format's (R74 to R78) -/
  | wrongLength
  /-- WRITEWORDS whose CNT is not the number of words that follow, or is above 124 (R78) -/
  | wrongCount
  /-- WRITEWORDS whose WMODE is not the one R84 derives -/
  | wrongWriteMode
deriving DecidableEq, Repr

end Sys2Proof.Machine
end

