-- ==== Sys2Proof/Config.lean ====
section
/-! DEFINITION. The parameters of 00_scope R6, and the free values: what the spec leaves open (93). A free value
is a constant with no body, so nothing can be proved of it. `CHECK_PREFIX` = false (92 D10) and
`ODD_TAIL` = drop (92 D19) have one value each and stand in `decodeFrame` and `words`. -/

namespace Sys2Proof.Config

open Sys2Proof.Machine

/-- `PREFIX`. -/
abbrev framePrefix : Byte := 0xA0
/-- `PAYLOAD_MAX`: largest payload ENCODE accepts. -/
abbrev payloadMax : Nat := 254
/-- `FRAME_MAX`: bytes of the longest frame, and the size of RXF (10 R25). -/
abbrev frameMax : Nat := 257
/-- `ECHO_BYTES`. -/
abbrev echoBytes : Nat := 2
/-- `DEFAULT_TIMEOUT_MS`. -/
abbrev defaultTimeoutMs : Nat := 1000
/-- `WORDS_MAX_WRITE`. -/
abbrev wordsMaxWrite : Nat := 124
/-- How many bits `TIMEOUT_BITS` has beyond ten. FREE VALUE (92 D15; log 7). -/
opaque moreTimeoutBits : Nat
/-- `TIMEOUT_BITS`, open in the spec (00 R6). DEDUCED (log 7): at least the ten bits of the default timeout, since
every catalogued command meets 41 R133 (e) by construction. -/
def timeoutBits : Nat := 10 + moreTimeoutBits

/-- The transport's answer to a frame and a timeout where no answer is listed; the first argument is the
draw. FREE VALUE (41 R132, 93 U7; log 3). -/
opaque xport : Nat → List Byte → Nat → List Byte

/-- What CREATE leaves in a register that 70 R210 calls unspecified. FREE VALUES (93 S12; log 6). -/
opaque freeCmd : Nat → List Byte
opaque freeTimeout : Nat → Nat
opaque freeTxf : Nat → List Byte
opaque freeRxf : Nat → List Byte
opaque freeOvf : Nat → Bool
opaque freeRpl : Nat → List Byte
opaque freeStatus : Nat → Kind
opaque freeAcc : Nat → BitVec 8
opaque freeCnt : Nat → BitVec 9
opaque freeLreg : Nat → BitVec 8

/-- `NO_ERROR`: the neutral text. FREE VALUE (91 N4; log 8). -/
opaque noError : String
/-- The parts of a message text that the spec does not give. FREE VALUES (41 R138; log 8). -/
opaque msgBefore : Failure → String
opaque msgAfter : Failure → String

/-- The fragments of message text the source gives (41 R138). -/
def fragment : Failure → String
  | .noReply => "check wiring"
  | .unsolicited => "reply does not match query"
  | .tagNotFound => "no tag detected"
  | .lengthMismatch => ""
  | .checksumMismatch => ""
  | .commandRejected => ""

/-- `MSG`: the text of a kind, with `MSG(NONE) = NO_ERROR` (10 R21). It contains the given fragment and is
otherwise open (92 D23). -/
def msg : Kind → String
  | .ok => noError
  | .failed f => msgBefore f ++ fragment f ++ msgAfter f

end Sys2Proof.Config
end

