-- ==== Sys2Proof/Machine/Codec.lean ====
section
/-! DEFINITION. FrameCodec as pure functions (40_frame_codec), the correlation test (41 R134), and the byte-serial
datapath (40 R110 to R112). -/

namespace Sys2Proof.Machine

/-- `sum8` (00 R8, 40 R100): the sum of the bytes, reduced modulo 256 at the end. -/
def sum8 (s : List Byte) : Byte := BitVec.ofNat 8 (s.map BitVec.toNat).sum

/-- `neg8` (40 R101): 8-bit two's complement. -/
def neg8 (v : Byte) : Byte := BitVec.ofNat 8 (256 - v.toNat)

/-- CHK8 (40 R103). -/
def chk8 (s : List Byte) : Byte := neg8 (sum8 s)

/-- `be16` (40 R102). -/
def be16 (hi lo : Byte) : TagWord := BitVec.ofNat 16 (hi.toNat * 256 + lo.toNat)

/-- `hi8` (40 R102). -/
def hi8 (w : TagWord) : Byte := BitVec.ofNat 8 (w.toNat / 256)

/-- `lo8` (40 R102). -/
def lo8 (w : TagWord) : Byte := BitVec.ofNat 8 (w.toNat % 256)

/-- WORDS (40 R113): pairs from the front, an unpaired last byte dropped (92 D19). -/
def words : List Byte → List TagWord
  | hi :: lo :: rest => be16 hi lo :: words rest
  | [_] => []
  | [] => []

/-- BYTES (40 R114), `bigEndianPairs`. -/
def bytesOf (ws : List TagWord) : List Byte := ws.flatMap fun w => [hi8 w, lo8 w]

/-- Numbers below 65536 as TagWords; the range is checked before (42 R160). -/
def tagWords (ws : List Nat) : List TagWord := ws.map (BitVec.ofNat 16)

/-- The slice `s[a..b]`, `b` excluded (00 R7). -/
def slice (s : List Byte) (a b : Nat) : List Byte := (s.drop a).take (b - a)

/-- Prefix, length byte and payload: what the checksum covers (40 R104, 30 R81). -/
def frameHead (payload : List Byte) : List Byte :=
  Config.framePrefix :: BitVec.ofNat 8 (payload.length + 1) :: payload

/-- ENCODE (40 R104), on its domain of at most 254 payload bytes. -/
def encodeFrame (payload : List Byte) : List Byte :=
  frameHead payload ++ [chk8 (frameHead payload)]

/-- DECODE (40 R106): the length test first, then the sum; frame byte 0 is not tested (R107), LEN is not
range-checked (R108). -/
def decodeFrame (frame : List Byte) : Res (List Byte) :=
  match frame with
  | [] => .err .lengthMismatch
  | [_] => .err .lengthMismatch
  | _ :: len :: _ =>
    if frame.length ≠ len.toNat + 2 then .err .lengthMismatch
    else if sum8 frame ≠ 0 then .err .checksumMismatch
    else .ok (slice frame 2 (frame.length - 1))

/-- DECODE of what RXF holds (10 R25): with OVF set the message was longer than any frame. -/
def decodeReceived (rxf : List Byte) (ovf : Bool) : Res (List Byte) :=
  if ovf then .err .lengthMismatch else decodeFrame rxf

/-- CORR (41 R134): both echo bytes equal; a missing byte is a mismatch (92 D13). -/
def echoes : List Byte → List Byte → Bool
  | c0 :: c1 :: _, p0 :: p1 :: _ => p0 == c0 && p1 == c1
  | _, _ => false

/-- The stripped reply (41 R135). -/
def stripEcho (p : List Byte) : List Byte := p.drop Config.echoBytes

/-! ## The byte-serial datapath -/

/-- The checksum accumulator after absorbing `s` from `clear` (40 R110). -/
def accumulate (s : List Byte) : Byte := s.foldl (fun acc b => acc + b) 0

/-- The packer's registers and what it has emitted (40 R111). -/
structure Packer where
  acc : BitVec 8 := 0
  cnt : BitVec 9 := 0
  out : List Byte := []
deriving DecidableEq, Repr

/-- Emit a byte and absorb it (40 R111). -/
def Packer.push (p : Packer) (b : Byte) : Packer :=
  { acc := p.acc + b, cnt := p.cnt + 1, out := p.out ++ [b] }

/-- The packer's run over a payload (40 R111): prefix, length, payload, each absorbed, then `neg8(ACC)`. -/
def packerRun (payload : List Byte) : Packer :=
  let p := (frameHead payload).foldl Packer.push {}
  { p with cnt := p.cnt + 1, out := p.out ++ [neg8 p.acc] }

/-- The unpacker's registers and store (40 R112). -/
structure Unpacker where
  acc : BitVec 8 := 0
  cnt : BitVec 9 := 0
  lreg : BitVec 8 := 0
  rxf : List Byte := []
  ovf : Bool := false
deriving DecidableEq, Repr

/-- One received byte (40 R112): CNT saturates at 258, RXF keeps the first 257 bytes. -/
def Unpacker.push (u : Unpacker) (b : Byte) : Unpacker :=
  { acc := u.acc + b
    cnt := if u.cnt.toNat < 258 then u.cnt + 1 else u.cnt
    lreg := if u.cnt = 1 then b else u.lreg
    rxf := if u.cnt.toNat < Config.frameMax then u.rxf ++ [b] else u.rxf
    ovf := if u.cnt.toNat < Config.frameMax then u.ovf else true }

/-- The unpacker's run over one delimited message (40 R112). -/
def unpackerRun (message : List Byte) : Unpacker := message.foldl Unpacker.push {}

/-- The verdict at the end of the message (40 R112). -/
def Unpacker.verdict (u : Unpacker) : Res (List Byte) :=
  if u.cnt.toNat < 2 ∨ u.cnt.toNat ≠ u.lreg.toNat + 2 then .err .lengthMismatch
  else if u.acc ≠ 0 then .err .checksumMismatch
  else .ok (slice u.rxf 2 (u.cnt.toNat - 1))

end Sys2Proof.Machine
end

