-- ==== Sys2Proof/Machine/Commands.lean ====
section
/-! DEFINITION. The command payload formats (30_encoding R73 to R78) and the opcode map (R85). The encoder, the
decoder and the meanings all take a command's bytes from here. -/

namespace Sys2Proof.Machine

abbrev opStartcont : Byte := 0x65
abbrev opGetversion : Byte := 0x6A
abbrev opReadwords : Byte := 0x80
abbrev opWritewords : Byte := 0x81
abbrev opIdentify : Byte := 0x82
abbrev opRawA6 : Byte := 0xA6
abbrev opStopcont : Byte := 0xA8
abbrev opSetbuzzer : Byte := 0xB0
abbrev opRawFC : Byte := 0xFC
abbrev opRawFF : Byte := 0xFF

/-- Format C2 (R74). -/
def commandC2 (op : Byte) : List Byte := [op, 0x00]

/-- Format C3 (R75). -/
def commandC3 (op : Byte) (mode : Nat) : List Byte := [op, 0x00, BitVec.ofNat 8 mode]

/-- Format C5 (R77). -/
def commandC5 (op : Byte) (bank addr n : Nat) : List Byte :=
  [op, 0x00, BitVec.ofNat 8 bank, BitVec.ofNat 8 addr, BitVec.ofNat 8 n]

/-- `WMODE` (R84). -/
def writeMode (k : Nat) : Byte := if k = 0 then 0 else 1

/-- Format CW (R78): header with WMODE and CNT computed from the data, then the words high byte first. -/
def commandCW (op : Byte) (bank addr : Nat) (data : List Nat) : List Byte :=
  [op, 0x00, writeMode data.length, BitVec.ofNat 8 bank, BitVec.ofNat 8 addr,
    BitVec.ofNat 8 data.length] ++ bytesOf (tagWords data)

/-- The first two command bytes as `OP * 256 + RSV` (R85). -/
def commandWord (c : List Byte) : TagWord :=
  match c with
  | [] => 0
  | [op] => be16 op 0
  | op :: rsv :: _ => be16 op rsv

end Sys2Proof.Machine
end

