-- ==== Sys2Proof/Machine/Operands.lean ====
section
/-! DEFINITION. The operand checks: every operand form of ID01-FCC is a number, a byte sequence or a word sequence
(20_memory R56: no alignment), and a check says whether it is in the operation's domain (41 R133; 42 R158,
R160). -/

namespace Sys2Proof.Machine

/-- A number that fits one command byte (42 R160). -/
def fitsByte (n : Nat) : Bool := decide (n < 256)

/-- A number that is a TagWord (42 R160). -/
def fitsTagWord (n : Nat) : Bool := decide (n < 65536)

/-- The length bounds of a SEND's command (41 R133 (c), (d)). -/
def commandLengthOk (c : List Byte) : Bool := decide (2 ≤ c.length) && decide (c.length ≤ Config.payloadMax)

/-- The timeout fits TIMEOUT_BITS (41 R133 (e)). Ten bits fit whatever the width is (log 7); they are asked for first,
so that the check of such a timeout evaluates although the width is free (`fitsTimeout_iff`). -/
def fitsTimeout (t : Nat) : Bool := decide (t < 2 ^ 10) || decide (t < 2 ^ Config.timeoutBits)

/-- Byte 0 is one of the undocumented opcodes (42 R158). -/
def isRawOpcode (b : Byte) : Bool := b == opRawFC || b == opRawFF || b == opRawA6

end Sys2Proof.Machine
end

