-- ==== Sys2Proof/Machine/State.lean ====
section
/-! DEFINITION. The state of ID01-FCC (10_state R20) with its ports as plain data, its value after reset (10 R35,
70 R210), and the reasons a step can stop. The block has no addressable memory (20_memory R50). -/

namespace Sys2Proof.Machine

/-- Everything the spec gives the machine, its ports (92 D2), and three fields of the model's own (`op`,
`fresh`, and the order of `inputs`; log 1, log 9). -/
structure State where
  /-- LASTERR.KIND (R21) -/
  lasterr : Kind
  /-- READY, driven by the transport (R30) -/
  ready : Bool
  /-- BUSY (R28) -/
  busy : Bool
  /-- PHASE (R27) -/
  phase : Phase
  /-- CMD (R23) -/
  cmd : List Byte
  /-- TIMEOUT, milliseconds (R26) -/
  timeout : Nat
  /-- TXF (R24) -/
  txf : List Byte
  /-- RXF (R25) -/
  rxf : List Byte
  /-- RXF.OVF (R25) -/
  ovf : Bool
  /-- RPL (R25) -/
  rpl : List Byte
  /-- STATUS (R29) -/
  status : Kind
  /-- ACC (R31) -/
  acc : BitVec 8
  /-- CNT (R31) -/
  cnt : BitVec 9
  /-- LREG (R31) -/
  lreg : BitVec 8
  /-- whose SEND is in progress (log 9) -/
  op : Op
  /-- H_REQ, RESET and X_READY: what the environment drives next, in order (log 1) -/
  inputs : List Input
  /-- X_RX: the transport's answers to the SENDs to come, in order (41 R132, log 3) -/
  answers : List (List Byte)
  /-- X_TX: what has been handed to the transport, oldest first (20 R62) -/
  sent : List Transmission
  /-- H_RSP: what has been delivered to the host, oldest first (70 R222) -/
  delivered : List Delivery
  /-- the number of free values drawn so far (log 3, log 6) -/
  fresh : Nat
deriving DecidableEq, Repr

/-- The state after reset. LASTERR, BUSY and PHASE are the spec's (10 R35, 70 R210). READY is 1, where the
spec's programs start (log 4, unsafe); the registers the spec leaves unspecified are empty or zero (log 5,
unsafe); the ports are empty. -/
def State.reset : State where
  lasterr := .ok
  ready := true
  busy := false
  phase := .idle
  cmd := []
  timeout := 0
  txf := []
  rxf := []
  ovf := false
  rpl := []
  status := .ok
  acc := 0
  cnt := 0
  lreg := 0
  op := .send
  inputs := []
  answers := []
  sent := []
  delivered := []
  fresh := 0

/-- The faults. The spec's own failures are outcomes of operations, hence next states (60 R180). -/
inductive Fault where
  /-- Raised by `resume` where BUSY = 1 and PHASE = IDLE, which 10 R28 excludes. Safe: no run from a
  coherent state reaches it (log 16). -/
  | sequencerIncoherent
deriving DecidableEq, Repr

/-- The refusals: the operation has no step (00 R8 `refuse`, 93). All are safe. -/
inductive Refusal where
  /-- exec's arm of an instruction without a meaning: none in this model -/
  | notModelled (mnemonic : String)
  /-- any operation while BUSY = 1 (70 R214, R211) -/
  | busy
  /-- an operation with a SEND while READY = 0 (41 R133 (a)) -/
  | notReady
  /-- a SEND command of fewer than 2 bytes (41 R133 (d)) -/
  | commandTooShort
  /-- a SEND command of more than 254 bytes (41 R133 (c)) -/
  | commandTooLong
  /-- a timeout wider than TIMEOUT_BITS (41 R133 (e)) -/
  | timeoutTooWide
  /-- ENCODE of more than 254 bytes (40 R104) -/
  | payloadTooLong
  /-- RAW whose byte 0 is none of 0xFC, 0xFF, 0xA6 (42 R158) -/
  | notRawOpcode
  /-- mode, bank, addr or n above 255 (42 R160) -/
  | operandNotAByte
  /-- a word above 65535 (40 R114, 42 R160) -/
  | notATagWord
  /-- WRITEWORDS of more than 124 words (42 R160) -/
  | tooManyWords
  /-- GETVERSION whose stripped reply has fewer than 2 bytes (42 R151) -/
  | versionReplyTooShort
  /-- OPSEL 15 (30 R93) -/
  | reservedOpsel
  /-- step, on a wire command that is not in the catalogue (30 R87) -/
  | undecodable (r : Reject)
deriving DecidableEq, Repr

end Sys2Proof.Machine
end

