-- ==== Sys2Proof/Machine/Flags.lean ====
section
/-! DEFINITION. STATUS and LASTERR codes (60_exceptions R181), the two classes of failure (R180), and the status
outputs of the block. There are no condition codes (10_state R29). -/

namespace Sys2Proof.Machine

/-- The numeric code of a failure kind (R181). -/
def Failure.code : Failure → BitVec 4
  | .noReply => 1
  | .lengthMismatch => 2
  | .checksumMismatch => 3
  | .unsolicited => 4
  | .commandRejected => 5
  | .tagNotFound => 6

/-- The code held in STATUS or LASTERR.KIND (R181). -/
def Kind.code : Kind → BitVec 4
  | .ok => 0
  | .failed f => f.code

/-- Bus-level faults, fatal for the call; the others are domain-level outcomes (R180). -/
def Failure.isBus : Failure → Bool
  | .noReply => true
  | .lengthMismatch => true
  | .checksumMismatch => true
  | .unsolicited => true
  | .commandRejected => false
  | .tagNotFound => false

/-- The class `MalformedReply` (R180). -/
def Failure.isMalformedReply (f : Failure) : Bool := f == .lengthMismatch || f == .checksumMismatch

/-- STATUS of a `Result` (10 R29). -/
def Res.status {α : Type} : Res α → Kind
  | .ok _ => .ok
  | .err f => .failed f

end Sys2Proof.Machine
end

