-- ==== Sys2Proof/Machine/Ops.lean ====
section
/-! DEFINITION. The named operations over State that the meanings share: delivering a result, the error entry
(60_exceptions R190), the steps of SEND on the registers (41 R131), and CREATE's effect (70 R210). -/

namespace Sys2Proof.Machine

/-- What a step answers. -/
abbrev Out := Host.Outcome State Fault Refusal

/-- An operation completes: STATUS is written and the pair goes out on H_RSP (10 R29, 70 R222). -/
def State.deliver (s : State) (k : Kind) (d : Data) : State :=
  { s with status := k, delivered := s.delivered ++ [⟨k, d⟩] }

/-- The sequencer goes back to IDLE (10 R27, R28). -/
def State.toIdle (s : State) : State := { s with phase := .idle, busy := false }

/-- A SEND, or a reader command, succeeds: LASTERR is unchanged (41 R131 step 5). -/
def State.succeed (s : State) (d : Data) : State := s.toIdle.deliver .ok d

/-- TAKING A FAILURE: the error entry (60 R190), in one step with the end of the operation. `d` is `none` but
for TagNotFound of IDENTIFY and READWORDS. There is no return from it: the block is idle and nothing was saved
(60 R191). -/
def State.errorEntry (s : State) (f : Failure) (d : Data) : State :=
  { s with lasterr := .failed f }.toIdle.deliver (.failed f) d

/-- SEND issue (41 R131): CMD and TIMEOUT are copied, BUSY rises, phase ENC. -/
def State.issue (s : State) (op : Op) (command : List Byte) (timeout : Nat) : State :=
  { s with cmd := command, timeout := timeout, busy := true, phase := .enc, op := op }

/-- The packer has run over a payload (40 R111): ACC and CNT as it leaves them, LREG cleared (10 R31). -/
def State.usePacker (s : State) (payload : List Byte) : State :=
  { s with acc := (packerRun payload).acc, cnt := (packerRun payload).cnt, lreg := 0 }

/-- The unpacker has run over a message (40 R112): ACC, CNT and LREG as it leaves them. -/
def State.useUnpacker (s : State) (message : List Byte) : State :=
  { s with
    acc := (unpackerRun message).acc
    cnt := (unpackerRun message).cnt
    lreg := (unpackerRun message).lreg }

/-- The checksum generator has absorbed a sequence (40 R110). -/
def State.useAccumulator (s : State) (seq : List Byte) : State := { s with acc := accumulate seq }

/-- Phase ENC to XCHG (41 R131 steps 1 and 2): TXF is the encoded command, and it is handed to the transport
with the timeout. -/
def State.handOver (s : State) : State :=
  { s.usePacker s.cmd with
    txf := encodeFrame s.cmd
    phase := .xchg
    sent := s.sent ++ [⟨encodeFrame s.cmd, s.timeout⟩] }

/-- The transport's answer to the frame in TXF (41 R132): the next listed one, else a free value (log 3). -/
def State.answer (s : State) : List Byte :=
  match s.answers with
  | a :: _ => a
  | [] => Config.xport s.fresh s.txf s.timeout

/-- One answer has been drawn. -/
def State.drawAnswer (s : State) : State :=
  match s.answers with
  | _ :: rest => { s with answers := rest }
  | [] => { s with fresh := s.fresh + 1 }

/-- The answer is received (10 R25): RXF keeps the first 257 bytes, OVF says that there were more. -/
def State.receive (s : State) (message : List Byte) : State :=
  { s.useUnpacker message with
    rxf := message.take Config.frameMax
    ovf := decide (Config.frameMax < message.length) }

/-- Phase DEC. -/
def State.toDec (s : State) : State := { s with phase := .dec }

/-- DECODE succeeded: RPL holds the reply payload, phase CORR (41 R131 step 3). -/
def State.toCorr (s : State) (payload : List Byte) : State := { s with rpl := payload, phase := .corr }

/-- The environment's next input has been taken. -/
def State.dropInput (s : State) : State := { s with inputs := s.inputs.tail }

/-- The transport drives READY (10 R30). -/
def State.setReady (s : State) (level : Bool) : State := { s with ready := level }

/-- The effect of RESET / CREATE (70 R210): LASTERR, BUSY and PHASE are set, the registers the rule calls
unspecified take free values within their sizes (log 6), READY and the ports are untouched. -/
def State.createReset (s : State) : State :=
  { s with
    lasterr := .ok
    busy := false
    phase := .idle
    cmd := (Config.freeCmd s.fresh).take Config.payloadMax
    timeout := Config.freeTimeout s.fresh % 2 ^ Config.timeoutBits
    txf := (Config.freeTxf s.fresh).take Config.frameMax
    rxf := (Config.freeRxf s.fresh).take Config.frameMax
    ovf := Config.freeOvf s.fresh
    rpl := (Config.freeRpl s.fresh).take Config.payloadMax
    status := Config.freeStatus s.fresh
    acc := Config.freeAcc s.fresh
    cnt := Config.freeCnt s.fresh
    lreg := Config.freeLreg s.fresh
    fresh := s.fresh + 1 }

/-- An operation without a SEND: refused while BUSY = 1 (10 R28), else it completes with a result. -/
def immediate (s : State) (t : State) : Out := if s.busy then .refused .busy else .next t

end Sys2Proof.Machine
end

