-- ==== Sys2Proof/Machine/Replies.lean ====
section
/-! DEFINITION. How each operation reads its stripped reply (42_reader_commands R151 to R158; formats 30 R80). Every
test of a missing byte counts as not equal (42 R150 (f)). -/

namespace Sys2Proof.Machine

/-- SEND hands the stripped reply back (41 R135). -/
def finishSend (r : List Byte) (s : State) : Out := .next (s.succeed (.bytes r))

/-- RAW hands it back uninterpreted (42 R158). -/
def finishRaw (r : List Byte) (s : State) : Out := .next (s.succeed (.bytes r))

/-- Format RV (42 R151): major, minor; a shorter reply has no defined version and is refused. -/
def finishGetversion (r : List Byte) (s : State) : Out :=
  match r with
  | major :: minor :: _ => .next (s.succeed (.version major minor))
  | _ => .refused .versionReplyTooShort

/-- Format RS (42 R152): status byte 0 is success. -/
def finishStopcont (r : List Byte) (s : State) : Out :=
  .next (if r.head? = some 0 then s.succeed .unit else s.errorEntry .commandRejected .none)

/-- Format RS (42 R153). -/
def finishStartcont (r : List Byte) (s : State) : Out :=
  .next (if r.head? = some 0 then s.succeed .unit else s.errorEntry .commandRejected .none)

/-- Format RS (42 R154). -/
def finishSetbuzzer (r : List Byte) (s : State) : Out :=
  .next (if r.head? = some 0 then s.succeed .unit else s.errorEntry .commandRejected .none)

/-- Format RI (42 R155): flag 1, then words; any other flag is no tag, an empty word list. -/
def finishIdentify (r : List Byte) (s : State) : Out :=
  .next (if r.head? = some 1 then s.succeed (.words (words (r.drop 1)))
    else s.errorEntry .tagNotFound (.words []))

/-- Format RR (42 R156): byte 0 echoes the bank, which is command byte 2; words from offset 3. -/
def finishReadwords (r : List Byte) (s : State) : Out :=
  .next (if r.head?.isSome ∧ r.head? = s.cmd[2]? then s.succeed (.words (words (r.drop 3)))
    else s.errorEntry .tagNotFound (.words []))

/-- Format RWS (42 R157): status byte 0 is success, else a failure without data. -/
def finishWritewords (r : List Byte) (s : State) : Out :=
  .next (if r.head? = some 0 then s.succeed .unit else s.errorEntry .tagNotFound .none)

/-- The reply of the operation in progress. -/
def finish (r : List Byte) (s : State) : Out :=
  match s.op with
  | .send => finishSend r s
  | .raw => finishRaw r s
  | .getversion => finishGetversion r s
  | .stopcont => finishStopcont r s
  | .startcont => finishStartcont r s
  | .setbuzzer => finishSetbuzzer r s
  | .identify => finishIdentify r s
  | .readwords => finishReadwords r s
  | .writewords => finishWritewords r s

end Sys2Proof.Machine
end

