-- ==== Sys2Proof/Machine/Sequencer.lean ====
section
/-! DEFINITION. The sequencer of SEND (41 R131, 10_state R27): phases ENC, XCHG, DEC, CORR in order, each failure
ending the operation at once (41 R139, 60 R189). -/

namespace Sys2Proof.Machine

/-- Phase CORR (41 R134): on equal echo bytes the operation reads its stripped reply. -/
def runCorr (s : State) : Out :=
  if echoes s.cmd s.rpl then finish (stripEcho s.rpl) s else .next (s.errorEntry .unsolicited .none)

/-- Phase DEC (41 R131 step 3). -/
def runDec (s : State) : Out :=
  match decodeReceived s.rxf s.ovf with
  | .err f => .next (s.errorEntry f .none)
  | .ok p => runCorr (s.toCorr p)

/-- RXF has been written: an empty answer is NoReply (41 R131 step 2), else phase DEC. -/
def runReceived (s : State) : Out :=
  if s.rxf = [] then .next (s.errorEntry .noReply .none) else runDec s.toDec

/-- Phase XCHG: the transport answers, once (41 R132). -/
def runXchg (s : State) : Out := runReceived (s.drawAnswer.receive s.answer)

/-- Phase ENC, up to the transport. Where the transport's answer is listed the SEND completes in this step;
else the block waits in XCHG and the next step completes it. The two forms are 41 R141's (log 3). -/
def runEnc (s : State) : Out :=
  match s.answers with
  | [] => .next s.handOver
  | _ :: _ => runXchg s.handOver

/-- A step of a SEND in progress, from the phase it stands in. -/
def resume (s : State) : Out :=
  match s.phase with
  | .idle => .fault .sequencerIncoherent
  | .enc => runEnc s
  | .xchg => runXchg s
  | .dec => runDec s
  | .corr => runCorr s

/-- SEND, for the operation `op` (41 R131, R133): refused with no state written unless the block is idle and
ready, the command has 2 to 254 bytes and the timeout fits. -/
def exchange (op : Op) (command : List Byte) (timeout : Nat) (s : State) : Out :=
  if s.busy then .refused .busy
  else if !s.ready then .refused .notReady
  else if command.length < 2 then .refused .commandTooShort
  else if Config.payloadMax < command.length then .refused .commandTooLong
  else if !fitsTimeout timeout then .refused .timeoutTooWide
  else runEnc (s.issue op command timeout)

end Sys2Proof.Machine
end

