-- ==== Sys2Proof/Machine/CommandChannel.lean ====
section
/-! DEFINITION. The meanings of SEND, GETLASTERROR, CREATE (41_command_channel) and of the reserved select code
(30 R93). -/

namespace Sys2Proof.Machine

/-- SEND (R131). -/
def execSend (command : List Byte) (timeout : Nat) (s : State) : Out := exchange .send command timeout s

/-- GETLASTERROR (R136): delivers LASTERR.KIND and clears nothing. -/
def execGetlasterror (s : State) : Out := immediate s (s.deliver .ok (.lastError s.lasterr))

/-- CREATE (R137, 70 R210): refused while BUSY = 1 (70 R211). -/
def execCreate (s : State) : Out := immediate s s.createReset

/-- OPSEL 15 is reserved and refused (30 R93). -/
def execReserved (_s : State) : Out := .refused .reservedOpsel

end Sys2Proof.Machine
end

