-- ==== Sys2Proof/Machine/FrameCodec.lean ====
section
/-! DEFINITION. The meanings of CHK8, ENCODE, DECODE, WORDS and BYTES (40_frame_codec). They write STATUS and the
codec's working registers (10_state R31), never LASTERR (90 C5), and use no transport. -/

namespace Sys2Proof.Machine

/-- CHK8 (R103). -/
def execChk8 (seq : List Byte) (s : State) : Out :=
  immediate s ((s.useAccumulator seq).deliver .ok (.byte (chk8 seq)))

/-- ENCODE (R104): a payload of more than 254 bytes is refused (92 D8). -/
def execEncode (payload : List Byte) (s : State) : Out :=
  if payload.length ≤ Config.payloadMax then
    immediate s ((s.usePacker payload).deliver .ok (.bytes (encodeFrame payload)))
  else .refused .payloadTooLong

/-- The data of DECODE's result (R106). -/
def decodeData : Res (List Byte) → Data
  | .ok p => .bytes p
  | .err _ => .none

/-- DECODE (R106): the failure is in STATUS only. -/
def execDecode (frame : List Byte) (s : State) : Out :=
  immediate s ((s.useUnpacker frame).deliver (decodeFrame frame).status (decodeData (decodeFrame frame)))

/-- WORDS (R113). -/
def execWords (seq : List Byte) (s : State) : Out := immediate s (s.deliver .ok (.words (words seq)))

/-- BYTES (R114): an element above 65535 is refused (92 D21). -/
def execBytes (ws : List Nat) (s : State) : Out :=
  if ws.all fitsTagWord then immediate s (s.deliver .ok (.bytes (bytesOf (tagWords ws))))
  else .refused .notATagWord

end Sys2Proof.Machine
end

