-- ==== Sys2Proof/Machine/ReaderCommands.lean ====
section
/-! DEFINITION. The meanings of the reader commands (42_reader_commands): operand ranges, then one SEND of the
command's bytes with the default timeout (R150); the reply is read in Replies. -/

namespace Sys2Proof.Machine

/-- GETVERSION (R151). -/
def execGetversion (s : State) : Out :=
  exchange .getversion (commandC2 opGetversion) Config.defaultTimeoutMs s

/-- STOPCONT (R152). -/
def execStopcont (s : State) : Out :=
  exchange .stopcont (commandC2 opStopcont) Config.defaultTimeoutMs s

/-- STARTCONT (R153). -/
def execStartcont (s : State) : Out :=
  exchange .startcont (commandC2 opStartcont) Config.defaultTimeoutMs s

/-- SETBUZZER (R154). -/
def execSetbuzzer (mode : Nat) (s : State) : Out :=
  if fitsByte mode then exchange .setbuzzer (commandC3 opSetbuzzer mode) Config.defaultTimeoutMs s
  else .refused .operandNotAByte

/-- IDENTIFY (R155). -/
def execIdentify (s : State) : Out :=
  exchange .identify (commandC2 opIdentify) Config.defaultTimeoutMs s

/-- READWORDS (R156). -/
def execReadwords (bank addr n : Nat) (s : State) : Out :=
  if fitsByte bank && fitsByte addr && fitsByte n then
    exchange .readwords (commandC5 opReadwords bank addr n) Config.defaultTimeoutMs s
  else .refused .operandNotAByte

/-- WRITEWORDS (R157). -/
def execWritewords (bank addr : Nat) (data : List Nat) (s : State) : Out :=
  if !(fitsByte bank && fitsByte addr) then .refused .operandNotAByte
  else if Config.wordsMaxWrite < data.length then .refused .tooManyWords
  else if !data.all fitsTagWord then .refused .notATagWord
  else exchange .writewords (commandCW opWritewords bank addr data) Config.defaultTimeoutMs s

/-- RAW (R158): byte 0 must be one of the undocumented opcodes. -/
def execRaw (cmd : List Byte) (s : State) : Out :=
  if cmd.head?.elim true isRawOpcode then exchange .raw cmd Config.defaultTimeoutMs s
  else .refused .notRawOpcode

/-- RAW_A6 (R158). -/
def execRawA6 (args : List Byte) (s : State) : Out :=
  exchange .raw (opRawA6 :: args) Config.defaultTimeoutMs s

/-- RAW_FC (R158). -/
def execRawFC (args : List Byte) (s : State) : Out :=
  exchange .raw (opRawFC :: args) Config.defaultTimeoutMs s

/-- RAW_FF (R158). -/
def execRawFF (args : List Byte) (s : State) : Out :=
  exchange .raw (opRawFF :: args) Config.defaultTimeoutMs s

end Sys2Proof.Machine
end

