-- ==== Sys2Proof/Syntax.lean ====
section
/-! DEFINITION. The operations of ID01-FCC: one constructor per row of spec/opcode_table.json. -/

namespace Sys2Proof

/-- An operation with its operands (30_encoding R91). Numbers are the host's operands before any range
check (42 R160). -/
inductive Instr where
  /-- STARTCONT (42 R153) -/
  | startcont
  /-- GETVERSION (42 R151) -/
  | getversion
  /-- READWORDS (42 R156) -/
  | readwords (bank addr n : Nat)
  /-- WRITEWORDS (42 R157) -/
  | writewords (bank addr : Nat) (data : List Nat)
  /-- IDENTIFY (42 R155) -/
  | identify
  /-- RAW_A6: opcode 0xA6 and its argument bytes `RAW_ARGS` (42 R158) -/
  | rawA6 (args : List Byte)
  /-- STOPCONT (42 R152) -/
  | stopcont
  /-- SETBUZZER (42 R154) -/
  | setbuzzer (mode : Nat)
  /-- RAW_FC (42 R158) -/
  | rawFC (args : List Byte)
  /-- RAW_FF (42 R158) -/
  | rawFF (args : List Byte)
  /-- CHK8 (40 R103) -/
  | chk8 (s : List Byte)
  /-- ENCODE (40 R104) -/
  | encode (payload : List Byte)
  /-- DECODE (40 R106) -/
  | decode (frame : List Byte)
  /-- SEND (41 R131) -/
  | send (command : List Byte) (timeout : Nat)
  /-- GETLASTERROR (41 R136) -/
  | getlasterror
  /-- WORDS (40 R113) -/
  | words (s : List Byte)
  /-- BYTES (40 R114) -/
  | bytes (ws : List Nat)
  /-- RAW: a complete command (42 R158) -/
  | raw (cmd : List Byte)
  /-- CREATE: the reset input (41 R137) -/
  | create
  /-- the reserved OPSEL code 15 (30 R93) -/
  | reserved
deriving DecidableEq, Repr

end Sys2Proof
end

