-- ==== Sys2Proof/Machine/Dispatch.lean ====
section
/-! DEFINITION. One arm per constructor of Instr: the meaning of each operation. -/

namespace Sys2Proof.Machine

def exec (i : Instr) (s : State) : Host.Outcome State Fault Refusal :=
  match i with
  | .startcont => Sys2Proof.Machine.execStartcont s
  | .getversion => Sys2Proof.Machine.execGetversion s
  | .readwords bank addr n => Sys2Proof.Machine.execReadwords bank addr n s
  | .writewords bank addr data => Sys2Proof.Machine.execWritewords bank addr data s
  | .identify => Sys2Proof.Machine.execIdentify s
  | .rawA6 args => Sys2Proof.Machine.execRawA6 args s
  | .stopcont => Sys2Proof.Machine.execStopcont s
  | .setbuzzer mode => Sys2Proof.Machine.execSetbuzzer mode s
  | .rawFC args => Sys2Proof.Machine.execRawFC args s
  | .rawFF args => Sys2Proof.Machine.execRawFF args s
  | .chk8 seq => Sys2Proof.Machine.execChk8 seq s
  | .encode payload => Sys2Proof.Machine.execEncode payload s
  | .decode frame => Sys2Proof.Machine.execDecode frame s
  | .send command timeout => Sys2Proof.Machine.execSend command timeout s
  | .getlasterror => Sys2Proof.Machine.execGetlasterror s
  | .words seq => Sys2Proof.Machine.execWords seq s
  | .bytes ws => Sys2Proof.Machine.execBytes ws s
  | .raw cmd => Sys2Proof.Machine.execRaw cmd s
  | .create => Sys2Proof.Machine.execCreate s
  | .reserved => Sys2Proof.Machine.execReserved s

end Sys2Proof.Machine
end

