-- ==== Sys2Proof/WellFormed.lean ====
section
/-! DEFINITION. The domain of each operation: what its operands must be for the spec to give it a meaning
(40 R104, R114; 41 R133 (c) to (e); 42 R158, R160). -/

namespace Sys2Proof

open Machine

/-- The operands are in the operation's domain. The reserved code names no operation (30 R93). -/
def Instr.wellFormed : Instr → Bool
  | .startcont => true
  | .getversion => true
  | .readwords bank addr n => fitsByte bank && fitsByte addr && fitsByte n
  | .writewords bank addr data =>
    fitsByte bank && fitsByte addr && decide (data.length ≤ Config.wordsMaxWrite) && data.all fitsTagWord
  | .identify => true
  | .rawA6 args => commandLengthOk (opRawA6 :: args)
  | .stopcont => true
  | .setbuzzer mode => fitsByte mode
  | .rawFC args => commandLengthOk (opRawFC :: args)
  | .rawFF args => commandLengthOk (opRawFF :: args)
  | .chk8 _ => true
  | .encode payload => decide (payload.length ≤ Config.payloadMax)
  | .decode _ => true
  | .send command timeout => commandLengthOk command && fitsTimeout timeout
  | .getlasterror => true
  | .words _ => true
  | .bytes ws => ws.all fitsTagWord
  | .raw cmd => commandLengthOk cmd && (cmd.head?.elim false isRawOpcode)
  | .create => true
  | .reserved => false

end Sys2Proof
end

