-- ==== Sys2Proof/Decode.lean ====
section
/-! DEFINITION. The decoder (total, rejecting by name) and the encoders. An operation is named in one of two spaces
(30_encoding R85, R93): by its wire command bytes, or by an OPSEL code with operands. -/

namespace Sys2Proof

open Machine

/-- What the decoder answers. -/
inductive Decoded where
  | ok (i : Instr)
  | reject (r : Reject)
deriving DecidableEq, Repr

/-- A command of format C2 (R74): the reserved byte and nothing more. -/
def decodeC2 (i : Instr) : List Byte → Decoded
  | [rsv] => if rsv = 0 then .ok i else .reject .reservedByte
  | _ => .reject .wrongLength

/-- Format C3 (R75). -/
def decodeSetbuzzer : List Byte → Decoded
  | [rsv, mode] => if rsv = 0 then .ok (.setbuzzer mode.toNat) else .reject .reservedByte
  | _ => .reject .wrongLength

/-- Format C5 (R77). -/
def decodeReadwords : List Byte → Decoded
  | [rsv, bank, addr, n] =>
    if rsv = 0 then .ok (.readwords bank.toNat addr.toNat n.toNat) else .reject .reservedByte
  | _ => .reject .wrongLength

/-- Format CW (R78): CNT and WMODE must be the ones R84 derives from the words that follow. -/
def decodeWritewords : List Byte → Decoded
  | rsv :: wmode :: bank :: addr :: cnt :: data =>
    if rsv ≠ 0 then .reject .reservedByte
    else if data.length ≠ 2 * cnt.toNat ∨ Config.wordsMaxWrite < cnt.toNat then .reject .wrongCount
    else if wmode ≠ writeMode cnt.toNat then .reject .wrongWriteMode
    else .ok (.writewords bank.toNat addr.toNat ((Machine.words data).map BitVec.toNat))
  | _ => .reject .wrongLength

/-- A command with an undocumented opcode (R76, R86): opcode and open argument bytes, 2 to 254 bytes in all. -/
def decodeRaw (op : Byte) (i : List Byte → Instr) (args : List Byte) : Decoded :=
  if commandLengthOk (op :: args) then .ok (i args) else .reject .wrongLength

/-- A reader command read from its command bytes by the catalogue of R85. -/
def decodeCommand : List Byte → Decoded
  | [] => .reject .emptyCommand
  | op :: rest =>
    if op = opStartcont then decodeC2 .startcont rest
    else if op = opGetversion then decodeC2 .getversion rest
    else if op = opReadwords then decodeReadwords rest
    else if op = opWritewords then decodeWritewords rest
    else if op = opIdentify then decodeC2 .identify rest
    else if op = opRawA6 then decodeRaw opRawA6 .rawA6 rest
    else if op = opStopcont then decodeC2 .stopcont rest
    else if op = opSetbuzzer then decodeSetbuzzer rest
    else if op = opRawFC then decodeRaw opRawFC .rawFC rest
    else if op = opRawFF then decodeRaw opRawFF .rawFF rest
    else .reject .unknownOpcode

/-- A request on H_REQ read by its OPSEL code (R93). Each operation reads its own lanes. -/
def decodeHost (r : HostReq) : Instr :=
  match r.opsel.toNat with
  | 0 => .chk8 r.seq
  | 1 => .encode r.seq
  | 2 => .decode r.seq
  | 3 => .send r.seq r.timeout
  | 4 => .getlasterror
  | 5 => .words r.seq
  | 6 => .bytes r.words
  | 7 => .raw r.seq
  | 8 => .getversion
  | 9 => .stopcont
  | 10 => .startcont
  | 11 => .setbuzzer r.mode
  | 12 => .identify
  | 13 => .readwords r.bank r.addr r.n
  | 14 => .writewords r.bank r.addr r.words
  | _ => .reserved

/-- The decoder of the machine, total on every request. -/
def decodeRequest : Request → Decoded
  | .host r => .ok (decodeHost r)
  | .command c => decodeCommand c
  | .reset => .ok .create

/-- The command bytes of a reader command (R74 to R78, R85). -/
def encodeCommand : Instr → Option (List Byte)
  | .startcont => some (commandC2 opStartcont)
  | .getversion => some (commandC2 opGetversion)
  | .readwords bank addr n => some (commandC5 opReadwords bank addr n)
  | .writewords bank addr data => some (commandCW opWritewords bank addr data)
  | .identify => some (commandC2 opIdentify)
  | .rawA6 args => some (opRawA6 :: args)
  | .stopcont => some (commandC2 opStopcont)
  | .setbuzzer mode => some (commandC3 opSetbuzzer mode)
  | .rawFC args => some (opRawFC :: args)
  | .rawFF args => some (opRawFF :: args)
  | .chk8 _ => none
  | .encode _ => none
  | .decode _ => none
  | .send _ _ => none
  | .getlasterror => none
  | .words _ => none
  | .bytes _ => none
  | .raw _ => none
  | .create => none
  | .reserved => none

/-- The OPSEL request of an operation (R93). CREATE has no OPSEL value; the RAW_xx rows enter by the code of
RAW, which names the operation RAW. -/
def encodeHost : Instr → Option HostReq
  | .chk8 s => some { opsel := 0, seq := s }
  | .encode payload => some { opsel := 1, seq := payload }
  | .decode frame => some { opsel := 2, seq := frame }
  | .send command timeout => some { opsel := 3, seq := command, timeout := timeout }
  | .getlasterror => some { opsel := 4 }
  | .words s => some { opsel := 5, seq := s }
  | .bytes ws => some { opsel := 6, words := ws }
  | .raw cmd => some { opsel := 7, seq := cmd }
  | .getversion => some { opsel := 8 }
  | .stopcont => some { opsel := 9 }
  | .startcont => some { opsel := 10 }
  | .setbuzzer mode => some { opsel := 11, mode := mode }
  | .identify => some { opsel := 12 }
  | .readwords bank addr n => some { opsel := 13, bank := bank, addr := addr, n := n }
  | .writewords bank addr data => some { opsel := 14, bank := bank, addr := addr, words := data }
  | .reserved => some { opsel := 15 }
  | .rawA6 _ => none
  | .rawFC _ => none
  | .rawFF _ => none
  | .create => none

/-- The encoder: the request of an instruction in the space of its row of spec/opcode_table.json. -/
def encode (i : Instr) : Request :=
  match encodeCommand i with
  | some c => .command c
  | none =>
    match encodeHost i with
    | some r => .host r
    | none => .reset

/-! ## Words numbered as spec/opcode_table.json numbers them -/

/-- The length of the shortest command with this opcode (R74 to R78): what an all-zero operand fills. -/
def shortestCommand (op : Byte) : Nat :=
  if op = opReadwords then 5 else if op = opWritewords then 6 else if op = opSetbuzzer then 3 else 2

/-- The command whose first two bytes are `OP * 256 + RSV` = w, its operand bytes zero. -/
def commandOfWord (w : Nat) : List Byte :=
  let op : Byte := BitVec.ofNat 8 (w / 256)
  [op, BitVec.ofNat 8 (w % 256)] ++ List.replicate (shortestCommand op - 2) 0

/-- The OPSEL request with code w and operands of zeros; a byte sequence of zeros is two zero bytes, the
shortest every sequence operand admits (log 19). -/
def hostOfWord (w : Nat) : HostReq := { opsel := BitVec.ofNat 4 w, seq := [0, 0] }

/-- The request a table word stands for: no bits is the reset input (CREATE), a word of 0 to 15 an OPSEL code,
a word of two bytes a wire command. -/
def requestOfWord (nbits w : Nat) : Option Request :=
  if nbits = 0 then (if w = 0 then some .reset else none)
  else if w < 16 then some (.host (hostOfWord w))
  else if nbits ≤ 8 ∨ 65536 ≤ w then none
  else some (.command (commandOfWord w))

/-- The instruction the decoder reads from a word of the opcode table. -/
def decodeTableWord (nbits w : Nat) : Option Instr :=
  match requestOfWord nbits w with
  | none => none
  | some r =>
    match decodeRequest r with
    | .ok i => some i
    | .reject _ => none

end Sys2Proof
end

