-- ==== Sys2Proof/Machine/Fetch.lean ====
section
/-! DEFINITION. What an idle block finds at its ports: the next input, decoded. The block fetches no instructions of
its own (10_state R27); the host's requests take their place (log 1). -/

namespace Sys2Proof.Machine

/-- What the next input is. -/
inductive Fetched where
  | nothing
  | level (b : Bool)
  | instr (i : Instr)
  | rejected (r : Reject)
deriving DecidableEq, Repr

/-- Read the next input. -/
def fetch (s : State) : Fetched :=
  match s.inputs with
  | [] => .nothing
  | .readyLevel b :: _ => .level b
  | .request r :: _ =>
    match decodeRequest r with
    | .ok i => .instr i
    | .reject why => .rejected why

/-- The request stored by `withFetchWord`; a word that is no request of the table is a command nothing
decodes. -/
def wordRequest (nbits w : Nat) : Request := (requestOfWord nbits w).getD (.command [])

/-- The host drives a request at an idle block, ahead of its other inputs. -/
def State.driveRequest (s : State) (r : Request) : State :=
  { s.toIdle with inputs := .request r :: s.inputs }

end Sys2Proof.Machine
end

