-- ==== Sys2Proof/Machine/Step.lean ====
section
/-! DEFINITION. One step: a SEND in progress goes on, taking no input (70 R214); an idle block takes its next input,
and waits where there is none (70 R210). -/

namespace Sys2Proof.Machine

/-- One step of the block. -/
def step (s : State) : Host.Outcome State Fault Refusal :=
  if s.busy then resume s
  else
    match fetch s with
    | .nothing => .next s
    | .level b => .next (s.dropInput.setReady b)
    | .instr i => exec i s.dropInput
    | .rejected r => .refused (.undecodable r)

/-- The state in which the host's next request is the instruction of a table word (log 1, log 19). -/
def State.withFetchWord (s : State) (nbits w : Nat) : State := s.driveRequest (wordRequest nbits w)

end Sys2Proof.Machine
end

