-- ==== Sys2Proof/Safety.lean ====
section
/-! DEFINITION. The terms claims are stated in: the invariant of the state, what one exchange means as a pure function
of the command and the transport's answer, and what an operation may change (its frame). -/

namespace Sys2Proof.Machine

/-- The invariant (10_state R23 to R28): BUSY and PHASE agree, the buffers keep their sizes, and a SEND in
progress has a command of 2 to 254 bytes whose frame is in TXF from XCHG on. -/
structure State.Inv (s : State) : Prop where
  busy_iff : s.busy = true ↔ s.phase ≠ .idle
  cmd_le : s.cmd.length ≤ Config.payloadMax
  cmd_ge : s.busy = true → 2 ≤ s.cmd.length
  txf_le : s.txf.length ≤ Config.frameMax
  txf_eq : s.phase ≠ .idle → s.phase ≠ .enc → s.txf = encodeFrame s.cmd
  rxf_le : s.rxf.length ≤ Config.frameMax
  rpl_le : s.rpl.length ≤ Config.payloadMax
  timeout_lt : s.timeout < 2 ^ Config.timeoutBits

/-- The run is at rest (70 R222). -/
def State.AtRest (s : State) : Prop := s.busy = false

/-- The block accepts an operation with a SEND: idle, ready (41 R133 (a), (b)), and the transport's next
answer is `a`. -/
structure State.Answers (s : State) (a : List Byte) : Prop where
  idle : s.busy = false
  ready : s.ready = true
  next : s.answers.head? = some a

/-- A well-formed frame of the wire (30 R71, R72). -/
structure ValidFrame (f : List Byte) : Prop where
  size : 3 ≤ f.length ∧ f.length ≤ Config.frameMax
  pfx : f.head? = some Config.framePrefix
  len : ∃ l, f[1]? = some l ∧ f.length = l.toNat + 2
  sum : sum8 f = 0

/-- The result of SEND as a function of the command and the transport's answer (41 R131 to R135), the whole
answer decoded, no buffer between. -/
def sendResult (command answer : List Byte) : Res (List Byte) :=
  if answer = [] then .err .noReply
  else
    match decodeFrame answer with
    | .err f => .err f
    | .ok p => if echoes command p then .ok (stripEcho p) else .err .unsolicited

/-- The operations that perform a SEND, with the command and timeout they pass (30 R92). -/
def exchangeOf : Instr → Option (Op × List Byte × Nat)
  | .send command timeout => some (.send, command, timeout)
  | .getversion => some (.getversion, [0x6A, 0x00], 1000)
  | .stopcont => some (.stopcont, [0xA8, 0x00], 1000)
  | .startcont => some (.startcont, [0x65, 0x00], 1000)
  | .setbuzzer mode => some (.setbuzzer, [0xB0, 0x00, BitVec.ofNat 8 mode], 1000)
  | .identify => some (.identify, [0x82, 0x00], 1000)
  | .readwords bank addr n =>
    some (.readwords, [0x80, 0x00, BitVec.ofNat 8 bank, BitVec.ofNat 8 addr, BitVec.ofNat 8 n], 1000)
  | .writewords bank addr data =>
    some (.writewords,
      [0x81, 0x00, if data.length = 0 then 0 else 1, BitVec.ofNat 8 bank, BitVec.ofNat 8 addr,
        BitVec.ofNat 8 data.length] ++ bytesOf (data.map (BitVec.ofNat 16)), 1000)
  | .raw cmd => some (.raw, cmd, 1000)
  | .rawA6 args => some (.raw, 0xA6 :: args, 1000)
  | .rawFC args => some (.raw, 0xFC :: args, 1000)
  | .rawFF args => some (.raw, 0xFF :: args, 1000)
  | .chk8 _ => none
  | .encode _ => none
  | .decode _ => none
  | .getlasterror => none
  | .words _ => none
  | .bytes _ => none
  | .create => none
  | .reserved => none

/-- The seven catalogued reader commands (30 R85); the RAW_xx rows are not among them. -/
def isCatalogued : Instr → Bool
  | .startcont => true
  | .getversion => true
  | .readwords _ _ _ => true
  | .writewords _ _ _ => true
  | .identify => true
  | .stopcont => true
  | .setbuzzer _ => true
  | .rawA6 _ => false
  | .rawFC _ => false
  | .rawFF _ => false
  | .chk8 _ => false
  | .encode _ => false
  | .decode _ => false
  | .send _ _ => false
  | .getlasterror => false
  | .words _ => false
  | .bytes _ => false
  | .raw _ => false
  | .create => false
  | .reserved => false

/-- The (match, mask) rows of the wire commands in spec/opcode_table.json, in its order (30 R85). -/
def catalogueRows : List (TagWord × TagWord) :=
  [(0x6500, 0xFFFF), (0x6A00, 0xFFFF), (0x8000, 0xFFFF), (0x8100, 0xFFFF), (0x8200, 0xFFFF),
   (0xA600, 0xFF00), (0xA800, 0xFFFF), (0xB000, 0xFFFF), (0xFC00, 0xFF00), (0xFF00, 0xFF00)]

/-- The row of an operation in `catalogueRows`. -/
def rowIndex : Instr → Option Nat
  | .startcont => some 0
  | .getversion => some 1
  | .readwords _ _ _ => some 2
  | .writewords _ _ _ => some 3
  | .identify => some 4
  | .rawA6 _ => some 5
  | .stopcont => some 6
  | .setbuzzer _ => some 7
  | .rawFC _ => some 8
  | .rawFF _ => some 9
  | .chk8 _ => none
  | .encode _ => none
  | .decode _ => none
  | .send _ _ => none
  | .getlasterror => none
  | .words _ => none
  | .bytes _ => none
  | .raw _ => none
  | .create => none
  | .reserved => none

/-- What is delivered for a SEND's result handed back as it is (41 R131, 42 R158). -/
def plainVerdict : Res (List Byte) → Delivery
  | .err f => ⟨.failed f, .none⟩
  | .ok r => ⟨.ok, .bytes r⟩

/-- What STOPCONT, STARTCONT and SETBUZZER deliver (42 R152 to R154). -/
def statusVerdict : Res (List Byte) → Delivery
  | .err f => ⟨.failed f, .none⟩
  | .ok r => if r[0]? = some 0 then ⟨.ok, .unit⟩ else ⟨.failed .commandRejected, .none⟩

/-- What IDENTIFY delivers (42 R155). -/
def identifyVerdict : Res (List Byte) → Delivery
  | .err f => ⟨.failed f, .none⟩
  | .ok r =>
    if r[0]? = some 1 then ⟨.ok, .words (words (r.drop 1))⟩ else ⟨.failed .tagNotFound, .words []⟩

/-- What READWORDS of a bank delivers (42 R156). -/
def readVerdict (bank : Nat) : Res (List Byte) → Delivery
  | .err f => ⟨.failed f, .none⟩
  | .ok r =>
    if r[0]?.map BitVec.toNat = some bank then ⟨.ok, .words (words (r.drop 3))⟩
    else ⟨.failed .tagNotFound, .words []⟩

/-- What WRITEWORDS delivers (42 R157). -/
def writeVerdict : Res (List Byte) → Delivery
  | .err f => ⟨.failed f, .none⟩
  | .ok r => if r[0]? = some 0 then ⟨.ok, .unit⟩ else ⟨.failed .tagNotFound, .none⟩

/-- The data delivered with failure `f` of an operation with a SEND (60 R190): an empty word list with TagNotFound
of IDENTIFY and READWORDS, else none. -/
def failureData (o : Op) (f : Failure) : Data :=
  if f = .tagNotFound ∧ (o = .identify ∨ o = .readwords) then .words [] else .none

/-- LASTERR after an operation of the channel or of the reader commands that delivers `k` (10 R21): kept on
success, overwritten by a failure. -/
def lastErrorAfter (old k : Kind) : Kind :=
  match k with
  | .ok => old
  | .failed f => .failed f

/-- RPL after an exchange: the decoded payload, else what it held (41 R131, log 11). -/
def replyPayloadAfter (old answer : List Byte) : List Byte :=
  match decodeFrame answer with
  | .ok p => p
  | .err _ => old

/-- The whole of `t` after an exchange from `s` in one step: command `c`, answer `a`, delivered result `d`. Of its
fields `op` (log 9), the working registers (log 10) and RPL after a failed DECODE (log 11) are the model's choice. -/
structure Exchanged (s t : State) (o : Op) (c : List Byte) (ms : Nat) (a : List Byte)
    (d : Delivery) : Prop where
  lasterr : t.lasterr = lastErrorAfter s.lasterr d.status
  ready : t.ready = s.ready
  busy : t.busy = false
  phase : t.phase = .idle
  cmd : t.cmd = c
  timeout : t.timeout = ms
  txf : t.txf = encodeFrame c
  rxf : t.rxf = a.take 257
  ovf : t.ovf = decide (257 < a.length)
  rpl : t.rpl = replyPayloadAfter s.rpl a
  status : t.status = d.status
  acc : t.acc = (unpackerRun a).acc
  cnt : t.cnt = (unpackerRun a).cnt
  lreg : t.lreg = (unpackerRun a).lreg
  op : t.op = o
  inputs : t.inputs = s.inputs
  answers : t.answers = s.answers.tail
  sent : t.sent = s.sent ++ [⟨encodeFrame c, ms⟩]
  delivered : t.delivered = s.delivered ++ [d]
  fresh : t.fresh = s.fresh

/-- The whole of `t` where an operation without a SEND has delivered `d` from `s`; the codec's working
registers are left to the statement that uses this. -/
structure DeliveredOnly (s t : State) (d : Delivery) : Prop where
  lasterr : t.lasterr = s.lasterr
  ready : t.ready = s.ready
  busy : t.busy = s.busy
  phase : t.phase = s.phase
  cmd : t.cmd = s.cmd
  timeout : t.timeout = s.timeout
  txf : t.txf = s.txf
  rxf : t.rxf = s.rxf
  ovf : t.ovf = s.ovf
  rpl : t.rpl = s.rpl
  status : t.status = d.status
  op : t.op = s.op
  inputs : t.inputs = s.inputs
  answers : t.answers = s.answers
  sent : t.sent = s.sent
  delivered : t.delivered = s.delivered ++ [d]
  fresh : t.fresh = s.fresh

/-- The codec's working registers are as before. -/
structure SameWorking (s t : State) : Prop where
  acc : t.acc = s.acc
  cnt : t.cnt = s.cnt
  lreg : t.lreg = s.lreg

end Sys2Proof.Machine
end

