-- ==== Sys2Proof/Certificates/Slice0/Obligations.lean ====
section
/-! DEFINITION. The statements about ID01-FCC, file by file of spec/. Witnesses for their hypotheses stand in
Sys2Proof/Tests/Slice0.lean. -/

open Sys2Proof Sys2Proof.Machine

/-! ## Encodings (30_encoding) -/

/-- Words written out from R74 to R78, R85 and R93 decode to the operations they stand for. The last two are table
words: that a word below 16 is an OPSEL code is the model's layout (log 19), and the code of GETLASTERROR the spec's
own decision D2. -/
def Obligations.WrittenOutWordsDecode : Prop :=
  decodeCommand [0x65, 0x00] = .ok .startcont ∧
  decodeCommand [0x6A, 0x00] = .ok .getversion ∧
  decodeCommand [0x80, 0x00, 0x03, 0x00, 0x08] = .ok (.readwords 3 0 8) ∧
  decodeCommand [0x81, 0x00, 0x01, 0x03, 0x00, 0x02, 0x12, 0x34, 0x56, 0x78] =
    .ok (.writewords 3 0 [0x1234, 0x5678]) ∧
  decodeCommand [0x81, 0x00, 0x00, 0x03, 0x00, 0x00] = .ok (.writewords 3 0 []) ∧
  decodeCommand [0x82, 0x00] = .ok .identify ∧
  decodeCommand [0xA8, 0x00] = .ok .stopcont ∧
  decodeCommand [0xB0, 0x00, 0x54] = .ok (.setbuzzer 0x54) ∧
  decodeCommand [0xFC, 0x00] = .ok (.rawFC [0x00]) ∧
  decodeTableWord 16 0x6A00 = some .getversion ∧
  decodeTableWord 8 4 = some .getlasterror

/-- Decoding the encoding of a well-formed operation gives it back, whichever space its row stands in. -/
def Obligations.EncodedOperationsDecodeBack : Prop :=
  ∀ i : Instr, i.wellFormed = true → decodeRequest (encode i) = .ok i

/-- A wire command the decoder accepts is well formed and is, byte for byte, the encoding of what it decodes to:
each command has one meaning and no byte of it is dropped. -/
def Obligations.DecodedCommandsReencode : Prop :=
  ∀ (c : List Byte) (i : Instr), decodeCommand c = .ok i →
    i.wellFormed = true ∧ encodeCommand i = some c

/-- No word matches two rows of the catalogue, a decoded command's word matches its own row, and a command whose
opcode is in no row is rejected (R85, R87; naming an operation by its wire bytes is log 2). -/
def Obligations.CatalogueRowsSeparateCommands : Prop :=
  (∀ (w : TagWord) (j k : Nat) (p q : TagWord × TagWord), catalogueRows[j]? = some p →
    catalogueRows[k]? = some q → w &&& p.2 = p.1 → w &&& q.2 = q.1 → j = k) ∧
  (∀ (c : List Byte) (i : Instr), decodeCommand c = .ok i →
    ∃ j row, rowIndex i = some j ∧ catalogueRows[j]? = some row ∧ commandWord c &&& row.2 = row.1) ∧
  (∀ (op : Byte) (rest : List Byte),
    op ∉ ([0x65, 0x6A, 0x80, 0x81, 0x82, 0xA6, 0xA8, 0xB0, 0xFC, 0xFF] : List Byte) →
    decodeCommand (op :: rest) = .reject .unknownOpcode)

/-- The OPSEL codes (R93; the codes are the spec's own decision D2). -/
def Obligations.OpselCodesSelectOperations : Prop :=
  ∀ r : HostReq,
    (r.opsel = 0 → decodeHost r = .chk8 r.seq) ∧
    (r.opsel = 1 → decodeHost r = .encode r.seq) ∧
    (r.opsel = 2 → decodeHost r = .decode r.seq) ∧
    (r.opsel = 3 → decodeHost r = .send r.seq r.timeout) ∧
    (r.opsel = 4 → decodeHost r = .getlasterror) ∧
    (r.opsel = 5 → decodeHost r = .words r.seq) ∧
    (r.opsel = 6 → decodeHost r = .bytes r.words) ∧
    (r.opsel = 7 → decodeHost r = .raw r.seq) ∧
    (r.opsel = 8 → decodeHost r = .getversion) ∧
    (r.opsel = 9 → decodeHost r = .stopcont) ∧
    (r.opsel = 10 → decodeHost r = .startcont) ∧
    (r.opsel = 11 → decodeHost r = .setbuzzer r.mode) ∧
    (r.opsel = 12 → decodeHost r = .identify) ∧
    (r.opsel = 13 → decodeHost r = .readwords r.bank r.addr r.n) ∧
    (r.opsel = 14 → decodeHost r = .writewords r.bank r.addr r.words) ∧
    (r.opsel = 15 → decodeHost r = .reserved)

/-- Formats C2, C3 and C5 with their frames (R74, R75, R77). -/
def Obligations.FixedCommandFormats : Prop :=
  (∀ i op, (i, op) ∈ [(Instr.getversion, (0x6A : Byte)), (.stopcont, 0xA8), (.startcont, 0x65),
      (.identify, 0x82)] →
    encodeCommand i = some [op, 0x00] ∧
    encodeFrame [op, 0x00] = [0xA0, 0x03, op, 0x00, chk8 [0xA0, 0x03, op, 0x00]]) ∧
  (∀ mode, mode < 256 →
    let m : Byte := BitVec.ofNat 8 mode
    encodeCommand (.setbuzzer mode) = some [0xB0, 0x00, m] ∧ m.toNat = mode ∧
    encodeFrame [0xB0, 0x00, m] = [0xA0, 0x04, 0xB0, 0x00, m, chk8 [0xA0, 0x04, 0xB0, 0x00, m]]) ∧
  (∀ bank addr n, bank < 256 → addr < 256 → n < 256 →
    let b : Byte := BitVec.ofNat 8 bank
    let d : Byte := BitVec.ofNat 8 addr
    let k : Byte := BitVec.ofNat 8 n
    encodeCommand (.readwords bank addr n) = some [0x80, 0x00, b, d, k] ∧
    b.toNat = bank ∧ d.toNat = addr ∧ k.toNat = n ∧
    encodeFrame [0x80, 0x00, b, d, k] =
      [0xA0, 0x06, 0x80, 0x00, b, d, k, chk8 [0xA0, 0x06, 0x80, 0x00, b, d, k]])

/-- Format CW, byte by byte, and the length of its frame; 125 words are too many (R78, R84). -/
def Obligations.WritewordsCommandLayout : Prop :=
  ∀ (bank addr : Nat) (data : List Nat), bank < 256 → addr < 256 → (∀ w ∈ data, w < 65536) →
    (data.length ≤ 124 →
      ∃ cmd, encodeCommand (.writewords bank addr data) = some cmd ∧
        cmd.length = 6 + 2 * data.length ∧ cmd.length ≤ 254 ∧
        (encodeFrame cmd).length = 9 + 2 * data.length ∧
        (encodeFrame cmd)[1]?.map BitVec.toNat = some (7 + 2 * data.length) ∧
        cmd[0]? = some 0x81 ∧ cmd[1]? = some 0x00 ∧
        cmd[2]?.map BitVec.toNat = some (if data = [] then 0 else 1) ∧
        cmd[3]?.map BitVec.toNat = some bank ∧ cmd[4]?.map BitVec.toNat = some addr ∧
        cmd[5]?.map BitVec.toNat = some data.length ∧
        ∀ m w, data[m]? = some w →
          cmd[6 + 2 * m]?.map BitVec.toNat = some (w / 256) ∧
          cmd[7 + 2 * m]?.map BitVec.toNat = some (w % 256)) ∧
    (124 < data.length → 254 < 6 + 2 * data.length)

/-! ## FrameCodec (40_frame_codec) -/

/-- `neg8` (R101): two's complement, inverse for addition, a bijection, and one checksum byte only makes a frame
valid. -/
def Obligations.NegationIsTwosComplement : Prop :=
  (∀ v : Byte, (neg8 v).toNat = (256 - v.toNat) % 256 ∧ neg8 v = -v ∧ (v.toNat + (neg8 v).toNat) % 256 = 0) ∧
  neg8 0 = 0 ∧ neg8 1 = 0xFF ∧ neg8 0x80 = 0x80 ∧ neg8 0xFF = 1 ∧
  Function.Bijective neg8 ∧
  ∀ (pfx len : Byte) (payload : List Byte), ∃! chk : Byte, sum8 (pfx :: len :: payload ++ [chk]) = 0

/-- `be16`, `hi8` and `lo8` (R102), the shifted form included. -/
def Obligations.TagWordAssembly : Prop :=
  (∀ hi lo : Byte, (be16 hi lo).toNat = hi.toNat * 256 + lo.toNat ∧
    be16 hi lo = hi.setWidth 16 <<< 8 ||| lo.setWidth 16 ∧
    hi8 (be16 hi lo) = hi ∧ lo8 (be16 hi lo) = lo) ∧
  (∀ w : TagWord, (hi8 w).toNat = w.toNat / 256 ∧ (lo8 w).toNat = w.toNat % 256 ∧
    be16 (hi8 w) (lo8 w) = w)

/-- The accumulator that wraps at 8 bits and the sum reduced at the end agree, in any order of the bytes (R100,
R110). -/
def Obligations.AccumulatorIsByteSum : Prop :=
  ∀ s t : List Byte, s.Perm t → accumulate t = sum8 s ∧ sum8 t = sum8 s ∧ chk8 t = chk8 s

/-- Every frame ENCODE makes (R105). -/
def Obligations.EncodedFrameProperties : Prop :=
  (∀ p : List Byte, p.length ≤ 254 →
    (encodeFrame p).length = 3 + p.length ∧
    (encodeFrame p)[0]? = some 0xA0 ∧
    (encodeFrame p)[1]?.map BitVec.toNat = some (p.length + 1) ∧
    p.length + 1 = (encodeFrame p).length - 2 ∧
    slice (encodeFrame p) 2 ((encodeFrame p).length - 1) = p ∧
    sum8 (encodeFrame p) = 0) ∧
  (∀ p q : List Byte, p.length ≤ 254 → q.length ≤ 254 → encodeFrame p = encodeFrame q → p = q)

/-- The DECODE procedure (R106), with the messages of R108; that fewer than two bytes are a LengthMismatch is the
spec's own decision D9. -/
def Obligations.DecodeProcedure : Prop :=
  ∀ f : List Byte,
    (f.length < 2 → decodeFrame f = .err .lengthMismatch) ∧
    (∀ b l rest, f = b :: l :: rest →
      (f.length ≠ l.toNat + 2 → decodeFrame f = .err .lengthMismatch) ∧
      (f.length = l.toNat + 2 → sum8 f ≠ 0 → decodeFrame f = .err .checksumMismatch) ∧
      (f.length = l.toNat + 2 → sum8 f = 0 →
        ∃ p, decodeFrame f = .ok p ∧ p = slice f 2 (f.length - 1) ∧ p.length = l.toNat - 1)) ∧
    (∀ b : Byte, f = [b, 0] → decodeFrame f = if b = 0 then .ok [] else .err .checksumMismatch) ∧
    (257 < f.length → decodeFrame f = .err .lengthMismatch)

/-- The properties of R109: round trip, the two mismatches, the converse round trip for the standard prefix, and the
detection of any single corrupted byte. -/
def Obligations.CodecRoundTripAndErrorDetection : Prop :=
  (∀ p : List Byte, p.length ≤ 254 → decodeFrame (encodeFrame p) = .ok p) ∧
  (∀ f l, f[1]? = some l → f.length ≠ l.toNat + 2 → decodeFrame f = .err .lengthMismatch) ∧
  (∀ f l, f[1]? = some l → f.length = l.toNat + 2 → sum8 f ≠ 0 → decodeFrame f = .err .checksumMismatch) ∧
  (∀ f p, decodeFrame f = .ok p → (encodeFrame p = f ↔ f[0]? = some 0xA0)) ∧
  (∀ (f p : List Byte) (k : Nat) (b c : Byte), decodeFrame f = .ok p → f[k]? = some c → b ≠ c →
    decodeFrame (f.set k b) = .err (if k = 1 then .lengthMismatch else .checksumMismatch))

/-- DECODE does not test the prefix (R107; the spec's own decision D10): any first byte has a checksum with which
the payload decodes. -/
def Obligations.PrefixIsNotTested : Prop :=
  ∀ (b : Byte) (p : List Byte), p.length ≤ 254 →
    ∃ chk : Byte, decodeFrame (b :: BitVec.ofNat 8 (p.length + 1) :: p ++ [chk]) = .ok p

/-- The packer (R111) emits the encoded frame and ends with CNT the frame's length. -/
def Obligations.PackerEmitsEncodedFrame : Prop :=
  ∀ p : List Byte, p.length ≤ 254 →
    (packerRun p).out = encodeFrame p ∧ (packerRun p).cnt.toNat = p.length + 3 ∧
    (packerRun p).acc = sum8 (frameHead p)

/-- The unpacker's verdict is DECODE's for every message (R112), and so is the verdict on what RXF and OVF keep of
it (10 R25). -/
def Obligations.UnpackerDecodesEveryMessage : Prop :=
  ∀ m : List Byte,
    (unpackerRun m).verdict = decodeFrame m ∧
    (unpackerRun m).rxf = m.take 257 ∧ (unpackerRun m).ovf = decide (257 < m.length) ∧
    (unpackerRun m).acc = sum8 m ∧ (unpackerRun m).cnt.toNat = min m.length 258 ∧
    decodeReceived (m.take 257) (decide (257 < m.length)) = decodeFrame m

/-- WORDS (R113): floor(len/2) words, word m from bytes 2m and 2m+1; that an odd tail is dropped is the spec's own
decision D19. -/
def Obligations.WordsPairBigEndian : Prop :=
  ∀ s : List Byte, (words s).length = s.length / 2 ∧
    ∀ (m : Nat) (hi lo : Byte), s[2 * m]? = some hi → s[2 * m + 1]? = some lo →
      (words s)[m]? = some (be16 hi lo)

/-- WORDS and BYTES are inverse up to an odd tail (R114). -/
def Obligations.BytesInvertWords : Prop :=
  (∀ ws : List TagWord, words (bytesOf ws) = ws ∧ (bytesOf ws).length = 2 * ws.length) ∧
  (∀ s : List Byte, bytesOf (words s) = s ↔ s.length % 2 = 0)

/-- Payload byte i is frame byte i + 2 and stripped reply byte j is frame byte j + 4 (20 R51). -/
def Obligations.IndexSpacesAreViews : Prop :=
  ∀ f p : List Byte, decodeFrame f = .ok p →
    p.length = f.length - 3 ∧
    (∀ i, i < p.length → p[i]? = f[i + 2]?) ∧
    (∀ j, j + 2 < p.length → (stripEcho p)[j]? = f[j + 4]?)

/-! ## Codec operations: completion, result and frame -/

/-- CHK8 on an idle block (40 R103): only STATUS, ACC and the delivered result change. That it leaves ACC at the
byte sum, and CNT and LREG as they were, is the model's choice (log 10). -/
def Obligations.Chk8Completes : Prop :=
  ∀ (s : State) (q : List Byte), s.busy = false →
    ∃ t, exec (.chk8 q) s = .next t ∧ DeliveredOnly s t ⟨.ok, .byte (neg8 (sum8 q))⟩ ∧
      t.acc = sum8 q ∧ t.cnt = s.cnt ∧ t.lreg = s.lreg

/-- ENCODE on an idle block (40 R104): only STATUS, the working registers and the delivered frame change. A longer
payload is refused (the spec's own decision D8). That the working registers stay as the packer's run ends is the
model's choice (log 10). -/
def Obligations.EncodeCompletes : Prop :=
  ∀ (s : State) (p : List Byte), s.busy = false →
    (p.length ≤ 254 →
      ∃ t, exec (.encode p) s = .next t ∧
        DeliveredOnly s t ⟨.ok, .bytes (0xA0 :: BitVec.ofNat 8 (p.length + 1) :: p ++
          [neg8 (sum8 (0xA0 :: BitVec.ofNat 8 (p.length + 1) :: p))])⟩ ∧
        t.acc = sum8 (0xA0 :: BitVec.ofNat 8 (p.length + 1) :: p) ∧
        t.cnt.toNat = p.length + 3 ∧ t.lreg = 0) ∧
    (254 < p.length → exec (.encode p) s = .refused .payloadTooLong)

/-- DECODE on an idle block (40 R106): the result or the failure kind in STATUS; LASTERR and the channel's buffers
do not change (90 C5). That the working registers stay as the unpacker's run ends is the model's choice (log 10). -/
def Obligations.DecodeCompletes : Prop :=
  ∀ (s : State) (f : List Byte), s.busy = false →
    ∃ t, exec (.decode f) s = .next t ∧
      DeliveredOnly s t (match decodeFrame f with
        | .ok p => ⟨.ok, .bytes p⟩
        | .err k => ⟨.failed k, .none⟩) ∧
      t.acc = sum8 f ∧ t.cnt.toNat = min f.length 258 ∧ t.lreg = (f[1]?).getD 0

/-- WORDS and BYTES on an idle block (40 R113, R114): only STATUS and the delivered result change. An element above
65535 is refused (the spec's own decision D21). -/
def Obligations.WordsAndBytesComplete : Prop :=
  ∀ s : State, s.busy = false →
    (∀ q : List Byte, ∃ t, exec (.words q) s = .next t ∧
      DeliveredOnly s t ⟨.ok, .words (words q)⟩ ∧ SameWorking s t) ∧
    (∀ ws : List Nat, (∀ w ∈ ws, w < 65536) → ∃ t, exec (.bytes ws) s = .next t ∧
      DeliveredOnly s t ⟨.ok, .bytes (ws.flatMap fun w => [BitVec.ofNat 8 (w / 256), BitVec.ofNat 8 w])⟩ ∧
      SameWorking s t) ∧
    (∀ ws : List Nat, (∃ w ∈ ws, 65536 ≤ w) → exec (.bytes ws) s = .refused .notATagWord)

/-! ## CommandChannel (41_command_channel) -/

/-- GETLASTERROR (R136): it delivers LASTERR.KIND, clears nothing, is refused while busy; the text of NONE is
NO_ERROR. -/
def Obligations.GetLastErrorReportsAndKeeps : Prop :=
  (∀ s : State, s.busy = false → ∃ t, exec .getlasterror s = .next t ∧
    DeliveredOnly s t ⟨.ok, .lastError s.lasterr⟩ ∧ SameWorking s t) ∧
  (∀ s : State, s.busy = true → exec .getlasterror s = .refused .busy) ∧
  Config.msg .ok = Config.noError

/-- The message texts contain the fragments of R138. -/
def Obligations.MessagesContainFragments : Prop :=
  (∃ a b, Config.msg (.failed .noReply) = a ++ "check wiring" ++ b) ∧
  (∃ a b, Config.msg (.failed .unsolicited) = a ++ "reply does not match query" ++ b) ∧
  (∃ a b, Config.msg (.failed .tagNotFound) = a ++ "no tag detected" ++ b)

/-- SEND on an idle, ready block whose transport answers `a` (R131 to R135): the whole next state. That the step
takes a listed answer is the model's form of R141 (log 3); a short reply payload is Unsolicited by decision D13.
Beyond the spec the whole next state fixes the latched operation (log 9), the working registers (log 10) and RPL
after a failed DECODE (log 11). -/
def Obligations.SendCompletes : Prop :=
  ∀ (s : State) (a c : List Byte) (ms : Nat), s.Answers a → 2 ≤ c.length → c.length ≤ 254 →
    ms < 2 ^ Config.timeoutBits →
    ∃ t, exec (.send c ms) s = .next t ∧ Exchanged s t .send c ms a (plainVerdict (sendResult c a))

/-- What SEND strips (R135): the reply payload without its two echo bytes, 0 to 252 bytes; the empty reply is a
success. -/
def Obligations.SendStripsEchoBytes : Prop :=
  ∀ (s : State) (a : List Byte) (c0 c1 : Byte) (args r : List Byte) (ms : Nat), s.Answers a →
    args.length ≤ 252 → ms < 2 ^ Config.timeoutBits →
    (decodeFrame a = .ok (c0 :: c1 :: r) →
      ∃ t, exec (.send (c0 :: c1 :: args) ms) s = .next t ∧ t.status = .ok ∧
        t.rpl = c0 :: c1 :: r ∧ t.delivered = s.delivered ++ [⟨.ok, .bytes r⟩] ∧
        r.length = t.rpl.length - 2 ∧ r.length ≤ 252) ∧
    (a = [0xA0, 0x03, c0, c1, chk8 [0xA0, 0x03, c0, c1]] →
      ∃ t, exec (.send (c0 :: c1 :: args) ms) s = .next t ∧ t.delivered = s.delivered ++ [⟨.ok, .bytes []⟩])

/-- What a successful SEND guarantees of the answer (R140). -/
def Obligations.SuccessfulSendGuarantees : Prop :=
  ∀ (s t : State) (a cmd : List Byte) (ms : Nat), s.Answers a → exec (.send cmd ms) s = .next t →
    t.status = .ok →
    4 ≤ a.length ∧ (∃ l, a[1]? = some l ∧ a.length = l.toNat + 2) ∧ sum8 a = 0 ∧
      a[2]? = cmd[0]? ∧ a[3]? = cmd[1]? ∧ t.delivered = s.delivered ++ [⟨.ok, .bytes (slice a 4 (a.length - 1))⟩]

/-- With no answer at hand the block waits in XCHG (R131 step 2, R141): the frame is with the transport, nothing is
delivered, no status or error is written. That the wait is a step of its own (log 3) and that the operation is
latched (log 9) is the model's choice. -/
def Obligations.SendWaitsForTheTransport : Prop :=
  ∀ (s : State) (i : Instr) (o : Op) (c : List Byte) (ms : Nat), exchangeOf i = some (o, c, ms) →
    i.wellFormed = true → s.busy = false → s.ready = true → s.answers = [] →
    ∃ t, exec i s = .next t ∧ t.busy = true ∧ t.phase = .xchg ∧ t.op = o ∧ t.cmd = c ∧ t.timeout = ms ∧
      t.txf = encodeFrame c ∧ t.sent = s.sent ++ [⟨encodeFrame c, ms⟩] ∧
      t.delivered = s.delivered ∧ t.status = s.status ∧ t.lasterr = s.lasterr ∧ t.ready = s.ready ∧
      t.inputs = s.inputs ∧ t.answers = [] ∧ t.rxf = s.rxf ∧ t.ovf = s.ovf ∧ t.rpl = s.rpl ∧ t.fresh = s.fresh

/-- The two-step form of an exchange, issue and completion, gives what the one-step form gives (R141). -/
def Obligations.TwoStepFormEqualsOneStepForm : Prop :=
  ∀ (s w : State) (i : Instr) (a : List Byte) (rest : List (List Byte)), (exchangeOf i).isSome →
    s.answers = [] → exec i s = .next w →
    step { w with answers := a :: rest } = exec i { s with answers := a :: rest }

/-- A SEND in progress ends in at most two steps, whatever the transport answers (R132, R141); the only refusal is
that of a short version reply (42 R151), which the model answers after the frame was sent (log 13). The operation is
the one latched (log 9). -/
def Obligations.SendInProgressEnds : Prop :=
  ∀ s : State, s.Inv → s.busy = true →
    (∃ t, step s = .next t ∧ (t.busy = false ∨ (t.phase = .xchg ∧ t.op = s.op ∧
      ((∃ u, step t = .next u ∧ u.busy = false) ∨
        (s.op = .getversion ∧ step t = .refused .versionReplyTooShort))))) ∨
    (s.op = .getversion ∧ step s = .refused .versionReplyTooShort)

/-- CREATE on an idle block (R137, 70 R210; beyond LASTERR the spec's own decision D24): LASTERR, BUSY and PHASE are
set, READY and the ports untouched, the buffers within their sizes; while busy it is refused (70 R211). -/
def Obligations.CreateResetsTheChannel : Prop :=
  ∀ s : State,
    (s.busy = false → ∃ t, exec .create s = .next t ∧ t.lasterr = .ok ∧ t.busy = false ∧ t.phase = .idle ∧
      t.ready = s.ready ∧ t.op = s.op ∧ t.inputs = s.inputs ∧ t.answers = s.answers ∧ t.sent = s.sent ∧
      t.delivered = s.delivered ∧ t.cmd.length ≤ 254 ∧ t.txf.length ≤ 257 ∧ t.rxf.length ≤ 257 ∧
      t.rpl.length ≤ 254 ∧ t.timeout < 2 ^ Config.timeoutBits) ∧
    (s.busy = true → exec .create s = .refused .busy)

/-! ## ReaderCommands (42_reader_commands) -/

/-- STOPCONT, STARTCONT and SETBUZZER (R152 to R154): the whole next state. That an absent status byte rejects is
the spec's own decision D17, that CommandRejected writes LASTERR its decision D22. Beyond the spec the whole next
state fixes the latched operation (log 9), the working registers (log 10) and RPL after a failed DECODE (log 11). -/
def Obligations.StatusCommandsComplete : Prop :=
  ∀ (s : State) (a : List Byte), s.Answers a →
    (∃ t, exec .stopcont s = .next t ∧
      Exchanged s t .stopcont [0xA8, 0x00] 1000 a (statusVerdict (sendResult [0xA8, 0x00] a))) ∧
    (∃ t, exec .startcont s = .next t ∧
      Exchanged s t .startcont [0x65, 0x00] 1000 a (statusVerdict (sendResult [0x65, 0x00] a))) ∧
    (∀ mode, mode < 256 → ∃ t, exec (.setbuzzer mode) s = .next t ∧
      Exchanged s t .setbuzzer [0xB0, 0x00, BitVec.ofNat 8 mode] 1000 a
        (statusVerdict (sendResult [0xB0, 0x00, BitVec.ofNat 8 mode] a)))

/-- GETVERSION (R151): the whole next state; a stripped reply of fewer than two bytes is refused (the spec's own
decision D18), with no next state although the frame was sent (log 13). Beyond the spec the whole next state fixes
the latched operation (log 9), the working registers (log 10) and RPL after a failed DECODE (log 11). -/
def Obligations.GetversionCompletes : Prop :=
  ∀ (s : State) (a : List Byte), s.Answers a →
    (∀ f, sendResult [0x6A, 0x00] a = .err f → ∃ t, exec .getversion s = .next t ∧
      Exchanged s t .getversion [0x6A, 0x00] 1000 a ⟨.failed f, .none⟩) ∧
    (∀ major minor r, sendResult [0x6A, 0x00] a = .ok (major :: minor :: r) →
      ∃ t, exec .getversion s = .next t ∧
        Exchanged s t .getversion [0x6A, 0x00] 1000 a ⟨.ok, .version major minor⟩) ∧
    (∀ r, sendResult [0x6A, 0x00] a = .ok r → r.length < 2 →
      exec .getversion s = .refused .versionReplyTooShort)

/-- IDENTIFY (R155): the whole next state. That an absent flag is no tag is the spec's own decision D17, that
TagNotFound writes LASTERR its decision D22. Beyond the spec the whole next state fixes the latched operation (log
9), the working registers (log 10) and RPL after a failed DECODE (log 11). -/
def Obligations.IdentifyCompletes : Prop :=
  ∀ (s : State) (a : List Byte), s.Answers a →
    ∃ t, exec .identify s = .next t ∧
      Exchanged s t .identify [0x82, 0x00] 1000 a (identifyVerdict (sendResult [0x82, 0x00] a))

/-- READWORDS (R156): the whole next state, for every bank, address and count of one byte. The words start at offset
3 (90 C3); that an absent bank byte is no tag is the spec's own decision D17, that TagNotFound writes LASTERR its
decision D22. Beyond the spec the whole next state fixes the latched operation (log 9), the working registers (log
10) and RPL after a failed DECODE (log 11). -/
def Obligations.ReadwordsCompletes : Prop :=
  ∀ (s : State) (a : List Byte) (bank addr n : Nat), s.Answers a → bank < 256 → addr < 256 → n < 256 →
    let c : List Byte := [0x80, 0x00, BitVec.ofNat 8 bank, BitVec.ofNat 8 addr, BitVec.ofNat 8 n]
    ∃ t, exec (.readwords bank addr n) s = .next t ∧
      Exchanged s t .readwords c 1000 a (readVerdict bank (sendResult c a))

/-- WRITEWORDS (R157): the whole next state, for every bank, address and 0 to 124 TagWords. The failure is
TagNotFound without data (90 C6); that an absent status byte fails is the spec's own decision D17, that TagNotFound
writes LASTERR its decision D22. Beyond the spec the whole next state fixes the latched operation (log 9), the
working registers (log 10) and RPL after a failed DECODE (log 11). -/
def Obligations.WritewordsCompletes : Prop :=
  ∀ (s : State) (a : List Byte) (bank addr : Nat) (data : List Nat), s.Answers a → bank < 256 → addr < 256 →
    data.length ≤ 124 → (∀ w ∈ data, w < 65536) →
    let c : List Byte :=
      [0x81, 0x00, if data.length = 0 then 0 else 1, BitVec.ofNat 8 bank, BitVec.ofNat 8 addr,
        BitVec.ofNat 8 data.length] ++ bytesOf (data.map (BitVec.ofNat 16))
    ∃ t, exec (.writewords bank addr data) s = .next t ∧
      Exchanged s t .writewords c 1000 a (writeVerdict (sendResult c a))

/-- RAW and its three opcodes (R158): a SEND with the default timeout, the result uninterpreted. That RAW is
admitted is the model's choice (log 18). A command of fewer than 2 or more than 254 bytes is refused:
OutOfDomainOperandsRefused. Beyond the spec the whole next state fixes the latched operation (log 9), the working
registers (log 10) and RPL after a failed DECODE (log 11). -/
def Obligations.RawCommandsComplete : Prop :=
  ∀ (s : State) (a : List Byte) (op : Byte) (args : List Byte), s.Answers a → 1 ≤ args.length →
    args.length ≤ 253 →
    ((op = 0xFC ∨ op = 0xFF ∨ op = 0xA6) → ∃ t, exec (.raw (op :: args)) s = .next t ∧
      Exchanged s t .raw (op :: args) 1000 a (plainVerdict (sendResult (op :: args) a))) ∧
    (¬(op = 0xFC ∨ op = 0xFF ∨ op = 0xA6) → exec (.raw (op :: args)) s = .refused .notRawOpcode) ∧
    (∃ t, exec (.rawA6 args) s = .next t ∧
      Exchanged s t .raw (0xA6 :: args) 1000 a (plainVerdict (sendResult (0xA6 :: args) a))) ∧
    (∃ t, exec (.rawFC args) s = .next t ∧
      Exchanged s t .raw (0xFC :: args) 1000 a (plainVerdict (sendResult (0xFC :: args) a))) ∧
    (∃ t, exec (.rawFF args) s = .next t ∧
      Exchanged s t .raw (0xFF :: args) 1000 a (plainVerdict (sendResult (0xFF :: args) a)))

/-- A reader command whose SEND fails ends as that SEND ends (R150 (b)): the same state but for the operation
latched, the model's own register (log 9). -/
def Obligations.ReaderCommandsShortCircuit : Prop :=
  ∀ (s : State) (i : Instr) (o : Op) (c a : List Byte) (ms : Nat) (f : Failure),
    exchangeOf i = some (o, c, ms) → i.wellFormed = true → s.Answers a → sendResult c a = .err f →
    ∃ t, exec (.send c ms) s = .next t ∧ exec i s = .next { t with op := o } ∧
      t.delivered = s.delivered ++ [⟨.failed f, .none⟩] ∧ t.lasterr = .failed f

/-- The result of an operation with a SEND depends on its operands and on the transport's answer, and on nothing
else the block holds (R150 (h), 10 R32). -/
def Obligations.ResultDependsOnlyOnTheAnswer : Prop :=
  ∀ (s₁ s₂ : State) (i : Instr) (a : List Byte), (exchangeOf i).isSome → s₁.Answers a → s₂.Answers a →
    (∀ t₁, exec i s₁ = .next t₁ → ∃ t₂ d x, exec i s₂ = .next t₂ ∧
      t₁.delivered = s₁.delivered ++ [d] ∧ t₂.delivered = s₂.delivered ++ [d] ∧
      t₁.sent = s₁.sent ++ [x] ∧ t₂.sent = s₂.sent ++ [x] ∧ t₁.status = t₂.status) ∧
    (∀ r, exec i s₁ = .refused r → exec i s₂ = .refused r)

/-- A catalogued command has the reserved byte 0x00, and a well-formed reply with another second byte is
Unsolicited, whatever else it holds (30 R88). -/
def Obligations.NonzeroReservedByteIsUnsolicited : Prop :=
  ∀ (i : Instr) (cmd : List Byte), isCatalogued i = true → i.wellFormed = true → encodeCommand i = some cmd →
    cmd[1]? = some 0 ∧
    ∀ (s : State) (a : List Byte) (p0 p1 : Byte) (p : List Byte), s.Answers a →
      decodeFrame a = .ok (p0 :: p1 :: p) → p1 ≠ 0 →
      ∃ t, exec i s = .next t ∧ t.status = .failed .unsolicited ∧ t.lasterr = .failed .unsolicited ∧
        t.delivered = s.delivered ++ [⟨.failed .unsolicited, .none⟩]

/-! ## Errors (60_exceptions) -/

/-- The codes of STATUS and LASTERR.KIND (R181; the numbers are the spec's own decision D5). -/
def Obligations.KindCodes : Prop :=
  Kind.code .ok = 0 ∧ Kind.code (.failed .noReply) = 1 ∧ Kind.code (.failed .lengthMismatch) = 2 ∧
  Kind.code (.failed .checksumMismatch) = 3 ∧ Kind.code (.failed .unsolicited) = 4 ∧
  Kind.code (.failed .commandRejected) = 5 ∧ Kind.code (.failed .tagNotFound) = 6 ∧
  (∀ k : Kind, k.code.toNat ≤ 6) ∧ Function.Injective Kind.code

/-- An empty answer is NoReply for every operation with a SEND, with no data; no other operation raises it (R182).
Beyond the spec the whole next state fixes the latched operation (log 9), the working registers (log 10) and RPL
after a failed DECODE (log 11). CREATE, which delivers nothing by the model's choice (log 6), is set apart. -/
def Obligations.EmptyAnswerIsNoReply : Prop :=
  (∀ (s : State) (i : Instr) (o : Op) (c : List Byte) (ms : Nat), exchangeOf i = some (o, c, ms) →
    i.wellFormed = true → s.Answers [] →
    ∃ t, exec i s = .next t ∧ Exchanged s t o c ms [] ⟨.failed .noReply, .none⟩) ∧
  (∀ (s t : State) (i : Instr), exchangeOf i = none → exec i s = .next t →
    i = .create ∨ ∃ d, t.delivered = s.delivered ++ [d] ∧ t.status = d.status ∧ d.status ≠ .failed .noReply)

/-- The order in which failures are reported (R189), for every operation with a SEND. -/
def Obligations.FailurePriority : Prop :=
  (∀ (s : State) (i : Instr) (o : Op) (c a : List Byte) (ms : Nat), exchangeOf i = some (o, c, ms) →
    i.wellFormed = true → s.Answers a →
    (a = [] → ∃ t, exec i s = .next t ∧ t.status = .failed .noReply) ∧
    (a ≠ [] → (∀ l, a[1]? = some l → a.length ≠ l.toNat + 2) →
      ∃ t, exec i s = .next t ∧ t.status = .failed .lengthMismatch) ∧
    (∀ l, a[1]? = some l → a.length = l.toNat + 2 → sum8 a ≠ 0 →
      ∃ t, exec i s = .next t ∧ t.status = .failed .checksumMismatch) ∧
    (∀ p, decodeFrame a = .ok p → (p.length < 2 ∨ p.take 2 ≠ c.take 2) →
      ∃ t, exec i s = .next t ∧ t.status = .failed .unsolicited) ∧
    (∀ p t, decodeFrame a = .ok p → 2 ≤ p.length → p.take 2 = c.take 2 → exec i s = .next t →
      t.status = .ok ∨
      (t.status = .failed .commandRejected ∧ (o = .stopcont ∨ o = .startcont ∨ o = .setbuzzer)) ∨
      (t.status = .failed .tagNotFound ∧ (o = .identify ∨ o = .readwords ∨ o = .writewords)))) ∧
  (∀ (s : State) (i : Instr), i.wellFormed = false ∨ s.busy = true → ∃ r, exec i s = .refused r)

/-- The error entry (R190), wherever an operation with a SEND ends in a failure, in its own step or in a later one:
LASTERR and STATUS take the kind, the block is idle, Err is delivered with the data of the operation (an empty word
list with TagNotFound of IDENTIFY and READWORDS, else none), and the frame is sent: by this step, or, where the
block stood past ENC, before it. DECODE and ENCODE deliver STATUS and leave LASTERR alone. That the domain kinds
write LASTERR is the spec's own decision D22; that a later step reads the operation in `op` is the model's choice
(log 9). -/
def Obligations.ErrorEntryRecordsTheKind : Prop :=
  (∀ (s t : State) (i : Instr) (o : Op) (c : List Byte) (ms : Nat) (f : Failure),
    exchangeOf i = some (o, c, ms) → exec i s = .next t →
    (t.busy = false ∧ t.status = .failed f) ∨ (∃ d, t.delivered = s.delivered ++ [⟨.failed f, d⟩]) →
    t.lasterr = .failed f ∧ t.status = .failed f ∧ t.phase = .idle ∧ t.busy = false ∧
    t.delivered = s.delivered ++ [⟨.failed f, failureData o f⟩] ∧
    t.sent = s.sent ++ [⟨encodeFrame c, ms⟩]) ∧
  (∀ (s t : State) (f : Failure), s.busy = true → step s = .next t →
    (t.busy = false ∧ t.status = .failed f) ∨ (∃ d, t.delivered = s.delivered ++ [⟨.failed f, d⟩]) →
    t.lasterr = .failed f ∧ t.status = .failed f ∧ t.phase = .idle ∧ t.busy = false ∧
    t.delivered = s.delivered ++ [⟨.failed f, failureData s.op f⟩] ∧
    t.sent = if s.phase = .enc then s.sent ++ [⟨encodeFrame s.cmd, s.timeout⟩] else s.sent) ∧
  (∀ (s t : State) (p : List Byte), exec (.decode p) s = .next t ∨ exec (.encode p) s = .next t →
    t.lasterr = s.lasterr ∧ ∃ d, t.delivered = s.delivered ++ [d] ∧ t.status = d.status)

/-- LASTERR over any step (10 R21, 60 R191): only a failure that is delivered writes it, with its own kind and an
idle block; a success keeps it; only CREATE sets it back to NONE. -/
def Obligations.LastErrorKeptUntilNextFailure : Prop :=
  ∀ s t : State, step s = .next t → s.busy = true ∨ fetch s ≠ .instr .create →
    (t.lasterr = s.lasterr ∨ ∃ f d, t.lasterr = .failed f ∧ t.status = .failed f ∧ t.busy = false ∧
      t.delivered = s.delivered ++ [⟨.failed f, d⟩]) ∧
    (∀ d, t.delivered = s.delivered ++ [⟨.ok, d⟩] → t.lasterr = s.lasterr) ∧
    (s.lasterr ≠ .ok → t.lasterr ≠ .ok)

/-! ## The whole machine (10_state, 20_memory, 70_reset_and_hazards) -/

/-- A step of an idle block runs the operation its next request decodes to, that request taken. -/
def Obligations.StepRunsTheDecodedOperation : Prop :=
  ∀ (s : State) (r : Request) (rest : List Input) (i : Instr), s.busy = false →
    s.inputs = .request r :: rest → decodeRequest r = .ok i →
    step s = exec i { s with inputs := rest }

/-- The other steps. An idle block with nothing to do waits (70 R210; that the wait is a step is log 15). It takes a
new level of READY, which is an input of an idle step by the model's choice (log 17). It refuses a wire command
outside the catalogue: naming an operation by its wire bytes, and refusing what names none, is the model's choice
(log 2). -/
def Obligations.StepWithoutAnOperation : Prop :=
  ∀ s : State, s.busy = false →
    (s.inputs = [] → step s = .next s) ∧
    (∀ b rest, s.inputs = .readyLevel b :: rest → step s = .next { s with inputs := rest, ready := b }) ∧
    (∀ r rest why, s.inputs = .request r :: rest → decodeRequest r = .reject why →
      step s = .refused (.undecodable why))

/-- What reset leaves (10 R35): LASTERR is the source's, BUSY and PHASE the spec's own decision D24. The other
registers are the model's choice (log 4, log 5) and are not stated. -/
def Obligations.ResetLeavesAnIdleChannel : Prop :=
  State.reset.lasterr = .ok ∧ State.reset.busy = false ∧ State.reset.phase = .idle

/-- The invariant holds at reset. -/
def Obligations.ResetMeetsTheInvariant : Prop := State.reset.Inv

/-- Every step keeps the invariant, from every state that meets it. -/
def Obligations.StepKeepsTheInvariant : Prop :=
  ∀ s t : State, s.Inv → step s = .next t → t.Inv

/-- From a state that meets the invariant no step faults. -/
def Obligations.CoherentBlockNeverFaults : Prop :=
  ∀ (s : State) (e : Fault), s.Inv → step s ≠ .fault e

/-- BUSY (10 R28): 0 at reset, equal to PHASE ≠ IDLE along every step, up from SEND issue until the result is
delivered, never up for another operation; while it is up no operation is accepted. -/
def Obligations.BusyIsPhaseNotIdle : Prop :=
  State.reset.busy = false ∧
  (∀ s t : State, (s.busy = true ↔ s.phase ≠ .idle) → step s = .next t → (t.busy = true ↔ t.phase ≠ .idle)) ∧
  (∀ (s t : State) (i : Instr), exec i s = .next t →
    ((exchangeOf i).isSome → (t.busy = true ∧ t.delivered = s.delivered) ∨
      (t.busy = false ∧ ∃ d, t.delivered = s.delivered ++ [d])) ∧
    (exchangeOf i = none → t.busy = false)) ∧
  (∀ (s : State) (i : Instr), s.busy = true → ∃ r, exec i s = .refused r)

/-- While a SEND is in progress the block takes none of the host's inputs (70 R214, the spec's own decision D14) and
keeps the CMD and TIMEOUT copied at issue (20 R65, decision D28). That READY keeps its level is the model's choice
(log 17), and so is the latched operation (log 9). -/
def Obligations.BusyBlockTakesNoInput : Prop :=
  ∀ s t : State, s.busy = true → step s = .next t → t.inputs = s.inputs ∧ t.ready = s.ready ∧
    t.cmd = s.cmd ∧ t.timeout = s.timeout ∧ t.op = s.op

/-- A SEND before the channel is ready is refused with nothing written; the operations without a SEND do not look at
READY (41 R133 (a), 70 R213; the spec's own decision D14). -/
def Obligations.NotReadyRefusesSends : Prop :=
  (∀ (s : State) (i : Instr), (exchangeOf i).isSome → i.wellFormed = true → s.busy = false →
    s.ready = false → exec i s = .refused .notReady) ∧
  (∀ (s t : State) (i : Instr) (b : Bool), exchangeOf i = none → exec i s = .next t →
    exec i { s with ready := b } = .next { t with ready := b })

/-- Operands outside an operation's domain are refused in every state, before anything is sent (42 R160, 40 R104,
R114, 41 R133; the spec's own decisions D8, D12, D21). -/
def Obligations.OutOfDomainOperandsRefused : Prop :=
  ∀ (s : State) (i : Instr), i.wellFormed = false → ∃ r, exec i s = .refused r

/-- OPSEL 15 is refused in every state (30 R93, the spec's own decision D2). -/
def Obligations.ReservedSelectIsRefused : Prop :=
  ∀ s : State, exec .reserved s = .refused .reservedOpsel

/-- One exchange per operation (30 R92, 20 R62): a step hands the transport nothing, or one valid frame, which is
the encoded command it passes with its timeout. -/
def Obligations.OneValidFramePerExchange : Prop :=
  ∀ s t : State, s.Inv → step s = .next t →
    t.sent = s.sent ∨ (ValidFrame t.txf ∧ t.txf = encodeFrame t.cmd ∧ t.sent = s.sent ++ [⟨t.txf, t.timeout⟩] ∧
      (s.busy = false ∨ s.phase = .enc))

/-- READY and the pending inputs are the environment's: no operation writes them (10 R30). That a step changes READY
only at an idle block, by the next entry of the input list, is the model's choice (log 1, log 17). -/
def Obligations.ReadyIsDrivenByTheTransport : Prop :=
  (∀ (s t : State) (i : Instr), exec i s = .next t → t.ready = s.ready ∧ t.inputs = s.inputs) ∧
  (∀ s t : State, step s = .next t → t.ready ≠ s.ready →
    s.busy = false ∧ ∃ b rest, s.inputs = .readyLevel b :: rest ∧ t.ready = b)
end

