-- ==== Sys2Proof/Laws/Codec.lean ====
section
/-! SUPPORT. Small lemmas of the timeout width and of the codec: the byte sum over a sequence, lengths, and what a successful DECODE says
about its message. -/

namespace Sys2Proof.Machine

/-- Ten bits fit TIMEOUT_BITS. -/
theorem two_pow_ten_le_timeoutBits : 2 ^ 10 ≤ 2 ^ Config.timeoutBits :=
  Nat.pow_le_pow_right (by decide) (Nat.le_add_right 10 _)

/-- So the default timeout does. -/
theorem defaultTimeout_lt : Config.defaultTimeoutMs < 2 ^ Config.timeoutBits :=
  Nat.lt_of_lt_of_le (by decide) two_pow_ten_le_timeoutBits

/-- The timeout check is the bound of 41 R133 (e). -/
@[simp] theorem fitsTimeout_iff (t : Nat) : fitsTimeout t = true ↔ t < 2 ^ Config.timeoutBits := by
  have := two_pow_ten_le_timeoutBits
  simp only [fitsTimeout, Bool.or_eq_true, decide_eq_true_eq]
  omega

@[simp] theorem sum8_nil : sum8 [] = 0 := rfl

@[simp] theorem sum8_cons (b : Byte) (s : List Byte) : sum8 (b :: s) = b + sum8 s := by
  apply BitVec.eq_of_toNat_eq
  simp [sum8, BitVec.toNat_add]

@[simp] theorem sum8_append (s t : List Byte) : sum8 (s ++ t) = sum8 s + sum8 t := by
  induction s with
  | nil => simp
  | cons b s ih => simp [ih, BitVec.add_assoc]

theorem neg8_eq_neg (v : Byte) : neg8 v = -v := by
  apply BitVec.eq_of_toNat_eq
  simp [neg8]

@[simp] theorem frameHead_length (p : List Byte) : (frameHead p).length = p.length + 2 := rfl

@[simp] theorem encodeFrame_length (p : List Byte) : (encodeFrame p).length = p.length + 3 := by
  simp [encodeFrame]

@[simp] theorem words_nil : words [] = [] := rfl
@[simp] theorem words_single (b : Byte) : words [b] = [] := rfl
@[simp] theorem words_cons (hi lo : Byte) (s : List Byte) :
    words (hi :: lo :: s) = be16 hi lo :: words s := rfl

@[simp] theorem bytesOf_nil : bytesOf [] = [] := rfl
@[simp] theorem bytesOf_cons (w : TagWord) (ws : List TagWord) :
    bytesOf (w :: ws) = hi8 w :: lo8 w :: bytesOf ws := rfl

theorem bytesOf_length (ws : List TagWord) : (bytesOf ws).length = 2 * ws.length := by
  induction ws with
  | nil => rfl
  | cons w ws ih => simp [ih]; omega

theorem slice_length (s : List Byte) (a b : Nat) :
    (slice s a b).length = min (b - a) (s.length - a) := by
  simp [slice]

/-- A successful DECODE: two bytes at least, the length byte right, the sum zero, the payload the slice. -/
theorem decodeFrame_ok {f p : List Byte} (h : decodeFrame f = .ok p) :
    ∃ b l rest, f = b :: l :: rest ∧ f.length = l.toNat + 2 ∧ sum8 f = 0 ∧ p = slice f 2 (f.length - 1) := by
  match f with
  | [] => simp [decodeFrame] at h
  | [_] => simp [decodeFrame] at h
  | b :: l :: rest =>
    simp only [decodeFrame] at h
    split at h
    · cases h
    · rename_i hlen
      split at h
      · cases h
      · rename_i hsum
        cases h
        exact ⟨b, l, rest, rfl, not_not.mp hlen, not_not.mp hsum, rfl⟩

/-- A decoded payload fits RPL (10 R25). -/
theorem decodeFrame_ok_length {f p : List Byte} (h : decodeFrame f = .ok p) :
    p.length ≤ Config.payloadMax := by
  obtain ⟨b, l, rest, -, hlen, -, rfl⟩ := decodeFrame_ok h
  have := l.isLt
  simp only [slice_length, Config.payloadMax]
  omega

theorem decodeReceived_ok_length {r p : List Byte} {o : Bool} (h : decodeReceived r o = .ok p) :
    p.length ≤ Config.payloadMax := by
  unfold decodeReceived at h
  split at h
  · cases h
  · exact decodeFrame_ok_length h

/-- DECODE fails by one of the two mismatches only (40 R107). -/
theorem decodeFrame_err {f : List Byte} {k : Failure} (h : decodeFrame f = .err k) :
    k = .lengthMismatch ∨ k = .checksumMismatch := by
  match f with
  | [] => simp [decodeFrame] at h; simp [← h]
  | [_] => simp [decodeFrame] at h; simp [← h]
  | b :: l :: rest =>
    simp only [decodeFrame] at h
    split at h
    · simp_all
    · split at h <;> simp_all

theorem decodeReceived_err {r : List Byte} {o : Bool} {k : Failure} (h : decodeReceived r o = .err k) :
    k = .lengthMismatch ∨ k = .checksumMismatch := by
  unfold decodeReceived at h
  split at h
  · simp_all
  · exact decodeFrame_err h

/-- The correlation test on explicit bytes (41 R134). -/
@[simp] theorem echoes_cons (c0 c1 p0 p1 : Byte) (c p : List Byte) :
    echoes (c0 :: c1 :: c) (p0 :: p1 :: p) = (p0 == c0 && p1 == c1) := rfl

end Sys2Proof.Machine
end

