-- ==== Sys2Proof/Laws/State.lean ====
section
/-! SUPPORT. One lemma per field per update of State, true by definition, so that no later proof unfolds a record
update. The draw of an answer, which is a case split, has its lemmas at the end. -/

namespace Sys2Proof.Machine

variable (s : State)

/-! ## deliver -/

@[simp] theorem State.deliver_lasterr (k : Kind) (d : Data) : (s.deliver k d).lasterr = s.lasterr := rfl
@[simp] theorem State.deliver_ready (k : Kind) (d : Data) : (s.deliver k d).ready = s.ready := rfl
@[simp] theorem State.deliver_busy (k : Kind) (d : Data) : (s.deliver k d).busy = s.busy := rfl
@[simp] theorem State.deliver_phase (k : Kind) (d : Data) : (s.deliver k d).phase = s.phase := rfl
@[simp] theorem State.deliver_cmd (k : Kind) (d : Data) : (s.deliver k d).cmd = s.cmd := rfl
@[simp] theorem State.deliver_timeout (k : Kind) (d : Data) : (s.deliver k d).timeout = s.timeout := rfl
@[simp] theorem State.deliver_txf (k : Kind) (d : Data) : (s.deliver k d).txf = s.txf := rfl
@[simp] theorem State.deliver_rxf (k : Kind) (d : Data) : (s.deliver k d).rxf = s.rxf := rfl
@[simp] theorem State.deliver_ovf (k : Kind) (d : Data) : (s.deliver k d).ovf = s.ovf := rfl
@[simp] theorem State.deliver_rpl (k : Kind) (d : Data) : (s.deliver k d).rpl = s.rpl := rfl
@[simp] theorem State.deliver_status (k : Kind) (d : Data) : (s.deliver k d).status = k := rfl
@[simp] theorem State.deliver_acc (k : Kind) (d : Data) : (s.deliver k d).acc = s.acc := rfl
@[simp] theorem State.deliver_cnt (k : Kind) (d : Data) : (s.deliver k d).cnt = s.cnt := rfl
@[simp] theorem State.deliver_lreg (k : Kind) (d : Data) : (s.deliver k d).lreg = s.lreg := rfl
@[simp] theorem State.deliver_op (k : Kind) (d : Data) : (s.deliver k d).op = s.op := rfl
@[simp] theorem State.deliver_inputs (k : Kind) (d : Data) : (s.deliver k d).inputs = s.inputs := rfl
@[simp] theorem State.deliver_answers (k : Kind) (d : Data) : (s.deliver k d).answers = s.answers := rfl
@[simp] theorem State.deliver_sent (k : Kind) (d : Data) : (s.deliver k d).sent = s.sent := rfl
@[simp] theorem State.deliver_delivered (k : Kind) (d : Data) : (s.deliver k d).delivered = s.delivered ++ [⟨k, d⟩] := rfl
@[simp] theorem State.deliver_fresh (k : Kind) (d : Data) : (s.deliver k d).fresh = s.fresh := rfl

/-! ## toIdle -/

@[simp] theorem State.toIdle_lasterr : (s.toIdle).lasterr = s.lasterr := rfl
@[simp] theorem State.toIdle_ready : (s.toIdle).ready = s.ready := rfl
@[simp] theorem State.toIdle_busy : (s.toIdle).busy = false := rfl
@[simp] theorem State.toIdle_phase : (s.toIdle).phase = .idle := rfl
@[simp] theorem State.toIdle_cmd : (s.toIdle).cmd = s.cmd := rfl
@[simp] theorem State.toIdle_timeout : (s.toIdle).timeout = s.timeout := rfl
@[simp] theorem State.toIdle_txf : (s.toIdle).txf = s.txf := rfl
@[simp] theorem State.toIdle_rxf : (s.toIdle).rxf = s.rxf := rfl
@[simp] theorem State.toIdle_ovf : (s.toIdle).ovf = s.ovf := rfl
@[simp] theorem State.toIdle_rpl : (s.toIdle).rpl = s.rpl := rfl
@[simp] theorem State.toIdle_status : (s.toIdle).status = s.status := rfl
@[simp] theorem State.toIdle_acc : (s.toIdle).acc = s.acc := rfl
@[simp] theorem State.toIdle_cnt : (s.toIdle).cnt = s.cnt := rfl
@[simp] theorem State.toIdle_lreg : (s.toIdle).lreg = s.lreg := rfl
@[simp] theorem State.toIdle_op : (s.toIdle).op = s.op := rfl
@[simp] theorem State.toIdle_inputs : (s.toIdle).inputs = s.inputs := rfl
@[simp] theorem State.toIdle_answers : (s.toIdle).answers = s.answers := rfl
@[simp] theorem State.toIdle_sent : (s.toIdle).sent = s.sent := rfl
@[simp] theorem State.toIdle_delivered : (s.toIdle).delivered = s.delivered := rfl
@[simp] theorem State.toIdle_fresh : (s.toIdle).fresh = s.fresh := rfl

/-! ## succeed -/

@[simp] theorem State.succeed_lasterr (d : Data) : (s.succeed d).lasterr = s.lasterr := rfl
@[simp] theorem State.succeed_ready (d : Data) : (s.succeed d).ready = s.ready := rfl
@[simp] theorem State.succeed_busy (d : Data) : (s.succeed d).busy = false := rfl
@[simp] theorem State.succeed_phase (d : Data) : (s.succeed d).phase = .idle := rfl
@[simp] theorem State.succeed_cmd (d : Data) : (s.succeed d).cmd = s.cmd := rfl
@[simp] theorem State.succeed_timeout (d : Data) : (s.succeed d).timeout = s.timeout := rfl
@[simp] theorem State.succeed_txf (d : Data) : (s.succeed d).txf = s.txf := rfl
@[simp] theorem State.succeed_rxf (d : Data) : (s.succeed d).rxf = s.rxf := rfl
@[simp] theorem State.succeed_ovf (d : Data) : (s.succeed d).ovf = s.ovf := rfl
@[simp] theorem State.succeed_rpl (d : Data) : (s.succeed d).rpl = s.rpl := rfl
@[simp] theorem State.succeed_status (d : Data) : (s.succeed d).status = .ok := rfl
@[simp] theorem State.succeed_acc (d : Data) : (s.succeed d).acc = s.acc := rfl
@[simp] theorem State.succeed_cnt (d : Data) : (s.succeed d).cnt = s.cnt := rfl
@[simp] theorem State.succeed_lreg (d : Data) : (s.succeed d).lreg = s.lreg := rfl
@[simp] theorem State.succeed_op (d : Data) : (s.succeed d).op = s.op := rfl
@[simp] theorem State.succeed_inputs (d : Data) : (s.succeed d).inputs = s.inputs := rfl
@[simp] theorem State.succeed_answers (d : Data) : (s.succeed d).answers = s.answers := rfl
@[simp] theorem State.succeed_sent (d : Data) : (s.succeed d).sent = s.sent := rfl
@[simp] theorem State.succeed_delivered (d : Data) : (s.succeed d).delivered = s.delivered ++ [⟨.ok, d⟩] := rfl
@[simp] theorem State.succeed_fresh (d : Data) : (s.succeed d).fresh = s.fresh := rfl

/-! ## errorEntry -/

@[simp] theorem State.errorEntry_lasterr (f : Failure) (d : Data) : (s.errorEntry f d).lasterr = .failed f := rfl
@[simp] theorem State.errorEntry_ready (f : Failure) (d : Data) : (s.errorEntry f d).ready = s.ready := rfl
@[simp] theorem State.errorEntry_busy (f : Failure) (d : Data) : (s.errorEntry f d).busy = false := rfl
@[simp] theorem State.errorEntry_phase (f : Failure) (d : Data) : (s.errorEntry f d).phase = .idle := rfl
@[simp] theorem State.errorEntry_cmd (f : Failure) (d : Data) : (s.errorEntry f d).cmd = s.cmd := rfl
@[simp] theorem State.errorEntry_timeout (f : Failure) (d : Data) : (s.errorEntry f d).timeout = s.timeout := rfl
@[simp] theorem State.errorEntry_txf (f : Failure) (d : Data) : (s.errorEntry f d).txf = s.txf := rfl
@[simp] theorem State.errorEntry_rxf (f : Failure) (d : Data) : (s.errorEntry f d).rxf = s.rxf := rfl
@[simp] theorem State.errorEntry_ovf (f : Failure) (d : Data) : (s.errorEntry f d).ovf = s.ovf := rfl
@[simp] theorem State.errorEntry_rpl (f : Failure) (d : Data) : (s.errorEntry f d).rpl = s.rpl := rfl
@[simp] theorem State.errorEntry_status (f : Failure) (d : Data) : (s.errorEntry f d).status = .failed f := rfl
@[simp] theorem State.errorEntry_acc (f : Failure) (d : Data) : (s.errorEntry f d).acc = s.acc := rfl
@[simp] theorem State.errorEntry_cnt (f : Failure) (d : Data) : (s.errorEntry f d).cnt = s.cnt := rfl
@[simp] theorem State.errorEntry_lreg (f : Failure) (d : Data) : (s.errorEntry f d).lreg = s.lreg := rfl
@[simp] theorem State.errorEntry_op (f : Failure) (d : Data) : (s.errorEntry f d).op = s.op := rfl
@[simp] theorem State.errorEntry_inputs (f : Failure) (d : Data) : (s.errorEntry f d).inputs = s.inputs := rfl
@[simp] theorem State.errorEntry_answers (f : Failure) (d : Data) : (s.errorEntry f d).answers = s.answers := rfl
@[simp] theorem State.errorEntry_sent (f : Failure) (d : Data) : (s.errorEntry f d).sent = s.sent := rfl
@[simp] theorem State.errorEntry_delivered (f : Failure) (d : Data) : (s.errorEntry f d).delivered = s.delivered ++ [⟨.failed f, d⟩] := rfl
@[simp] theorem State.errorEntry_fresh (f : Failure) (d : Data) : (s.errorEntry f d).fresh = s.fresh := rfl

/-! ## issue -/

@[simp] theorem State.issue_lasterr (o : Op) (c : List Byte) (ms : Nat) : (s.issue o c ms).lasterr = s.lasterr := rfl
@[simp] theorem State.issue_ready (o : Op) (c : List Byte) (ms : Nat) : (s.issue o c ms).ready = s.ready := rfl
@[simp] theorem State.issue_busy (o : Op) (c : List Byte) (ms : Nat) : (s.issue o c ms).busy = true := rfl
@[simp] theorem State.issue_phase (o : Op) (c : List Byte) (ms : Nat) : (s.issue o c ms).phase = .enc := rfl
@[simp] theorem State.issue_cmd (o : Op) (c : List Byte) (ms : Nat) : (s.issue o c ms).cmd = c := rfl
@[simp] theorem State.issue_timeout (o : Op) (c : List Byte) (ms : Nat) : (s.issue o c ms).timeout = ms := rfl
@[simp] theorem State.issue_txf (o : Op) (c : List Byte) (ms : Nat) : (s.issue o c ms).txf = s.txf := rfl
@[simp] theorem State.issue_rxf (o : Op) (c : List Byte) (ms : Nat) : (s.issue o c ms).rxf = s.rxf := rfl
@[simp] theorem State.issue_ovf (o : Op) (c : List Byte) (ms : Nat) : (s.issue o c ms).ovf = s.ovf := rfl
@[simp] theorem State.issue_rpl (o : Op) (c : List Byte) (ms : Nat) : (s.issue o c ms).rpl = s.rpl := rfl
@[simp] theorem State.issue_status (o : Op) (c : List Byte) (ms : Nat) : (s.issue o c ms).status = s.status := rfl
@[simp] theorem State.issue_acc (o : Op) (c : List Byte) (ms : Nat) : (s.issue o c ms).acc = s.acc := rfl
@[simp] theorem State.issue_cnt (o : Op) (c : List Byte) (ms : Nat) : (s.issue o c ms).cnt = s.cnt := rfl
@[simp] theorem State.issue_lreg (o : Op) (c : List Byte) (ms : Nat) : (s.issue o c ms).lreg = s.lreg := rfl
@[simp] theorem State.issue_op (o : Op) (c : List Byte) (ms : Nat) : (s.issue o c ms).op = o := rfl
@[simp] theorem State.issue_inputs (o : Op) (c : List Byte) (ms : Nat) : (s.issue o c ms).inputs = s.inputs := rfl
@[simp] theorem State.issue_answers (o : Op) (c : List Byte) (ms : Nat) : (s.issue o c ms).answers = s.answers := rfl
@[simp] theorem State.issue_sent (o : Op) (c : List Byte) (ms : Nat) : (s.issue o c ms).sent = s.sent := rfl
@[simp] theorem State.issue_delivered (o : Op) (c : List Byte) (ms : Nat) : (s.issue o c ms).delivered = s.delivered := rfl
@[simp] theorem State.issue_fresh (o : Op) (c : List Byte) (ms : Nat) : (s.issue o c ms).fresh = s.fresh := rfl

/-! ## usePacker -/

@[simp] theorem State.usePacker_lasterr (p : List Byte) : (s.usePacker p).lasterr = s.lasterr := rfl
@[simp] theorem State.usePacker_ready (p : List Byte) : (s.usePacker p).ready = s.ready := rfl
@[simp] theorem State.usePacker_busy (p : List Byte) : (s.usePacker p).busy = s.busy := rfl
@[simp] theorem State.usePacker_phase (p : List Byte) : (s.usePacker p).phase = s.phase := rfl
@[simp] theorem State.usePacker_cmd (p : List Byte) : (s.usePacker p).cmd = s.cmd := rfl
@[simp] theorem State.usePacker_timeout (p : List Byte) : (s.usePacker p).timeout = s.timeout := rfl
@[simp] theorem State.usePacker_txf (p : List Byte) : (s.usePacker p).txf = s.txf := rfl
@[simp] theorem State.usePacker_rxf (p : List Byte) : (s.usePacker p).rxf = s.rxf := rfl
@[simp] theorem State.usePacker_ovf (p : List Byte) : (s.usePacker p).ovf = s.ovf := rfl
@[simp] theorem State.usePacker_rpl (p : List Byte) : (s.usePacker p).rpl = s.rpl := rfl
@[simp] theorem State.usePacker_status (p : List Byte) : (s.usePacker p).status = s.status := rfl
@[simp] theorem State.usePacker_acc (p : List Byte) : (s.usePacker p).acc = (packerRun p).acc := rfl
@[simp] theorem State.usePacker_cnt (p : List Byte) : (s.usePacker p).cnt = (packerRun p).cnt := rfl
@[simp] theorem State.usePacker_lreg (p : List Byte) : (s.usePacker p).lreg = 0 := rfl
@[simp] theorem State.usePacker_op (p : List Byte) : (s.usePacker p).op = s.op := rfl
@[simp] theorem State.usePacker_inputs (p : List Byte) : (s.usePacker p).inputs = s.inputs := rfl
@[simp] theorem State.usePacker_answers (p : List Byte) : (s.usePacker p).answers = s.answers := rfl
@[simp] theorem State.usePacker_sent (p : List Byte) : (s.usePacker p).sent = s.sent := rfl
@[simp] theorem State.usePacker_delivered (p : List Byte) : (s.usePacker p).delivered = s.delivered := rfl
@[simp] theorem State.usePacker_fresh (p : List Byte) : (s.usePacker p).fresh = s.fresh := rfl

/-! ## useUnpacker -/

@[simp] theorem State.useUnpacker_lasterr (m : List Byte) : (s.useUnpacker m).lasterr = s.lasterr := rfl
@[simp] theorem State.useUnpacker_ready (m : List Byte) : (s.useUnpacker m).ready = s.ready := rfl
@[simp] theorem State.useUnpacker_busy (m : List Byte) : (s.useUnpacker m).busy = s.busy := rfl
@[simp] theorem State.useUnpacker_phase (m : List Byte) : (s.useUnpacker m).phase = s.phase := rfl
@[simp] theorem State.useUnpacker_cmd (m : List Byte) : (s.useUnpacker m).cmd = s.cmd := rfl
@[simp] theorem State.useUnpacker_timeout (m : List Byte) : (s.useUnpacker m).timeout = s.timeout := rfl
@[simp] theorem State.useUnpacker_txf (m : List Byte) : (s.useUnpacker m).txf = s.txf := rfl
@[simp] theorem State.useUnpacker_rxf (m : List Byte) : (s.useUnpacker m).rxf = s.rxf := rfl
@[simp] theorem State.useUnpacker_ovf (m : List Byte) : (s.useUnpacker m).ovf = s.ovf := rfl
@[simp] theorem State.useUnpacker_rpl (m : List Byte) : (s.useUnpacker m).rpl = s.rpl := rfl
@[simp] theorem State.useUnpacker_status (m : List Byte) : (s.useUnpacker m).status = s.status := rfl
@[simp] theorem State.useUnpacker_acc (m : List Byte) : (s.useUnpacker m).acc = (unpackerRun m).acc := rfl
@[simp] theorem State.useUnpacker_cnt (m : List Byte) : (s.useUnpacker m).cnt = (unpackerRun m).cnt := rfl
@[simp] theorem State.useUnpacker_lreg (m : List Byte) : (s.useUnpacker m).lreg = (unpackerRun m).lreg := rfl
@[simp] theorem State.useUnpacker_op (m : List Byte) : (s.useUnpacker m).op = s.op := rfl
@[simp] theorem State.useUnpacker_inputs (m : List Byte) : (s.useUnpacker m).inputs = s.inputs := rfl
@[simp] theorem State.useUnpacker_answers (m : List Byte) : (s.useUnpacker m).answers = s.answers := rfl
@[simp] theorem State.useUnpacker_sent (m : List Byte) : (s.useUnpacker m).sent = s.sent := rfl
@[simp] theorem State.useUnpacker_delivered (m : List Byte) : (s.useUnpacker m).delivered = s.delivered := rfl
@[simp] theorem State.useUnpacker_fresh (m : List Byte) : (s.useUnpacker m).fresh = s.fresh := rfl

/-! ## useAccumulator -/

@[simp] theorem State.useAccumulator_lasterr (q : List Byte) : (s.useAccumulator q).lasterr = s.lasterr := rfl
@[simp] theorem State.useAccumulator_ready (q : List Byte) : (s.useAccumulator q).ready = s.ready := rfl
@[simp] theorem State.useAccumulator_busy (q : List Byte) : (s.useAccumulator q).busy = s.busy := rfl
@[simp] theorem State.useAccumulator_phase (q : List Byte) : (s.useAccumulator q).phase = s.phase := rfl
@[simp] theorem State.useAccumulator_cmd (q : List Byte) : (s.useAccumulator q).cmd = s.cmd := rfl
@[simp] theorem State.useAccumulator_timeout (q : List Byte) : (s.useAccumulator q).timeout = s.timeout := rfl
@[simp] theorem State.useAccumulator_txf (q : List Byte) : (s.useAccumulator q).txf = s.txf := rfl
@[simp] theorem State.useAccumulator_rxf (q : List Byte) : (s.useAccumulator q).rxf = s.rxf := rfl
@[simp] theorem State.useAccumulator_ovf (q : List Byte) : (s.useAccumulator q).ovf = s.ovf := rfl
@[simp] theorem State.useAccumulator_rpl (q : List Byte) : (s.useAccumulator q).rpl = s.rpl := rfl
@[simp] theorem State.useAccumulator_status (q : List Byte) : (s.useAccumulator q).status = s.status := rfl
@[simp] theorem State.useAccumulator_acc (q : List Byte) : (s.useAccumulator q).acc = accumulate q := rfl
@[simp] theorem State.useAccumulator_cnt (q : List Byte) : (s.useAccumulator q).cnt = s.cnt := rfl
@[simp] theorem State.useAccumulator_lreg (q : List Byte) : (s.useAccumulator q).lreg = s.lreg := rfl
@[simp] theorem State.useAccumulator_op (q : List Byte) : (s.useAccumulator q).op = s.op := rfl
@[simp] theorem State.useAccumulator_inputs (q : List Byte) : (s.useAccumulator q).inputs = s.inputs := rfl
@[simp] theorem State.useAccumulator_answers (q : List Byte) : (s.useAccumulator q).answers = s.answers := rfl
@[simp] theorem State.useAccumulator_sent (q : List Byte) : (s.useAccumulator q).sent = s.sent := rfl
@[simp] theorem State.useAccumulator_delivered (q : List Byte) : (s.useAccumulator q).delivered = s.delivered := rfl
@[simp] theorem State.useAccumulator_fresh (q : List Byte) : (s.useAccumulator q).fresh = s.fresh := rfl

/-! ## handOver -/

@[simp] theorem State.handOver_lasterr : (s.handOver).lasterr = s.lasterr := rfl
@[simp] theorem State.handOver_ready : (s.handOver).ready = s.ready := rfl
@[simp] theorem State.handOver_busy : (s.handOver).busy = s.busy := rfl
@[simp] theorem State.handOver_phase : (s.handOver).phase = .xchg := rfl
@[simp] theorem State.handOver_cmd : (s.handOver).cmd = s.cmd := rfl
@[simp] theorem State.handOver_timeout : (s.handOver).timeout = s.timeout := rfl
@[simp] theorem State.handOver_txf : (s.handOver).txf = encodeFrame s.cmd := rfl
@[simp] theorem State.handOver_rxf : (s.handOver).rxf = s.rxf := rfl
@[simp] theorem State.handOver_ovf : (s.handOver).ovf = s.ovf := rfl
@[simp] theorem State.handOver_rpl : (s.handOver).rpl = s.rpl := rfl
@[simp] theorem State.handOver_status : (s.handOver).status = s.status := rfl
@[simp] theorem State.handOver_acc : (s.handOver).acc = (packerRun s.cmd).acc := rfl
@[simp] theorem State.handOver_cnt : (s.handOver).cnt = (packerRun s.cmd).cnt := rfl
@[simp] theorem State.handOver_lreg : (s.handOver).lreg = 0 := rfl
@[simp] theorem State.handOver_op : (s.handOver).op = s.op := rfl
@[simp] theorem State.handOver_inputs : (s.handOver).inputs = s.inputs := rfl
@[simp] theorem State.handOver_answers : (s.handOver).answers = s.answers := rfl
@[simp] theorem State.handOver_sent : (s.handOver).sent = s.sent ++ [⟨encodeFrame s.cmd, s.timeout⟩] := rfl
@[simp] theorem State.handOver_delivered : (s.handOver).delivered = s.delivered := rfl
@[simp] theorem State.handOver_fresh : (s.handOver).fresh = s.fresh := rfl

/-! ## receive -/

@[simp] theorem State.receive_lasterr (m : List Byte) : (s.receive m).lasterr = s.lasterr := rfl
@[simp] theorem State.receive_ready (m : List Byte) : (s.receive m).ready = s.ready := rfl
@[simp] theorem State.receive_busy (m : List Byte) : (s.receive m).busy = s.busy := rfl
@[simp] theorem State.receive_phase (m : List Byte) : (s.receive m).phase = s.phase := rfl
@[simp] theorem State.receive_cmd (m : List Byte) : (s.receive m).cmd = s.cmd := rfl
@[simp] theorem State.receive_timeout (m : List Byte) : (s.receive m).timeout = s.timeout := rfl
@[simp] theorem State.receive_txf (m : List Byte) : (s.receive m).txf = s.txf := rfl
@[simp] theorem State.receive_rxf (m : List Byte) : (s.receive m).rxf = m.take Config.frameMax := rfl
@[simp] theorem State.receive_ovf (m : List Byte) : (s.receive m).ovf = decide (Config.frameMax < m.length) := rfl
@[simp] theorem State.receive_rpl (m : List Byte) : (s.receive m).rpl = s.rpl := rfl
@[simp] theorem State.receive_status (m : List Byte) : (s.receive m).status = s.status := rfl
@[simp] theorem State.receive_acc (m : List Byte) : (s.receive m).acc = (unpackerRun m).acc := rfl
@[simp] theorem State.receive_cnt (m : List Byte) : (s.receive m).cnt = (unpackerRun m).cnt := rfl
@[simp] theorem State.receive_lreg (m : List Byte) : (s.receive m).lreg = (unpackerRun m).lreg := rfl
@[simp] theorem State.receive_op (m : List Byte) : (s.receive m).op = s.op := rfl
@[simp] theorem State.receive_inputs (m : List Byte) : (s.receive m).inputs = s.inputs := rfl
@[simp] theorem State.receive_answers (m : List Byte) : (s.receive m).answers = s.answers := rfl
@[simp] theorem State.receive_sent (m : List Byte) : (s.receive m).sent = s.sent := rfl
@[simp] theorem State.receive_delivered (m : List Byte) : (s.receive m).delivered = s.delivered := rfl
@[simp] theorem State.receive_fresh (m : List Byte) : (s.receive m).fresh = s.fresh := rfl

/-! ## toDec -/

@[simp] theorem State.toDec_lasterr : (s.toDec).lasterr = s.lasterr := rfl
@[simp] theorem State.toDec_ready : (s.toDec).ready = s.ready := rfl
@[simp] theorem State.toDec_busy : (s.toDec).busy = s.busy := rfl
@[simp] theorem State.toDec_phase : (s.toDec).phase = .dec := rfl
@[simp] theorem State.toDec_cmd : (s.toDec).cmd = s.cmd := rfl
@[simp] theorem State.toDec_timeout : (s.toDec).timeout = s.timeout := rfl
@[simp] theorem State.toDec_txf : (s.toDec).txf = s.txf := rfl
@[simp] theorem State.toDec_rxf : (s.toDec).rxf = s.rxf := rfl
@[simp] theorem State.toDec_ovf : (s.toDec).ovf = s.ovf := rfl
@[simp] theorem State.toDec_rpl : (s.toDec).rpl = s.rpl := rfl
@[simp] theorem State.toDec_status : (s.toDec).status = s.status := rfl
@[simp] theorem State.toDec_acc : (s.toDec).acc = s.acc := rfl
@[simp] theorem State.toDec_cnt : (s.toDec).cnt = s.cnt := rfl
@[simp] theorem State.toDec_lreg : (s.toDec).lreg = s.lreg := rfl
@[simp] theorem State.toDec_op : (s.toDec).op = s.op := rfl
@[simp] theorem State.toDec_inputs : (s.toDec).inputs = s.inputs := rfl
@[simp] theorem State.toDec_answers : (s.toDec).answers = s.answers := rfl
@[simp] theorem State.toDec_sent : (s.toDec).sent = s.sent := rfl
@[simp] theorem State.toDec_delivered : (s.toDec).delivered = s.delivered := rfl
@[simp] theorem State.toDec_fresh : (s.toDec).fresh = s.fresh := rfl

/-! ## toCorr -/

@[simp] theorem State.toCorr_lasterr (p : List Byte) : (s.toCorr p).lasterr = s.lasterr := rfl
@[simp] theorem State.toCorr_ready (p : List Byte) : (s.toCorr p).ready = s.ready := rfl
@[simp] theorem State.toCorr_busy (p : List Byte) : (s.toCorr p).busy = s.busy := rfl
@[simp] theorem State.toCorr_phase (p : List Byte) : (s.toCorr p).phase = .corr := rfl
@[simp] theorem State.toCorr_cmd (p : List Byte) : (s.toCorr p).cmd = s.cmd := rfl
@[simp] theorem State.toCorr_timeout (p : List Byte) : (s.toCorr p).timeout = s.timeout := rfl
@[simp] theorem State.toCorr_txf (p : List Byte) : (s.toCorr p).txf = s.txf := rfl
@[simp] theorem State.toCorr_rxf (p : List Byte) : (s.toCorr p).rxf = s.rxf := rfl
@[simp] theorem State.toCorr_ovf (p : List Byte) : (s.toCorr p).ovf = s.ovf := rfl
@[simp] theorem State.toCorr_rpl (p : List Byte) : (s.toCorr p).rpl = p := rfl
@[simp] theorem State.toCorr_status (p : List Byte) : (s.toCorr p).status = s.status := rfl
@[simp] theorem State.toCorr_acc (p : List Byte) : (s.toCorr p).acc = s.acc := rfl
@[simp] theorem State.toCorr_cnt (p : List Byte) : (s.toCorr p).cnt = s.cnt := rfl
@[simp] theorem State.toCorr_lreg (p : List Byte) : (s.toCorr p).lreg = s.lreg := rfl
@[simp] theorem State.toCorr_op (p : List Byte) : (s.toCorr p).op = s.op := rfl
@[simp] theorem State.toCorr_inputs (p : List Byte) : (s.toCorr p).inputs = s.inputs := rfl
@[simp] theorem State.toCorr_answers (p : List Byte) : (s.toCorr p).answers = s.answers := rfl
@[simp] theorem State.toCorr_sent (p : List Byte) : (s.toCorr p).sent = s.sent := rfl
@[simp] theorem State.toCorr_delivered (p : List Byte) : (s.toCorr p).delivered = s.delivered := rfl
@[simp] theorem State.toCorr_fresh (p : List Byte) : (s.toCorr p).fresh = s.fresh := rfl

/-! ## dropInput -/

@[simp] theorem State.dropInput_lasterr : (s.dropInput).lasterr = s.lasterr := rfl
@[simp] theorem State.dropInput_ready : (s.dropInput).ready = s.ready := rfl
@[simp] theorem State.dropInput_busy : (s.dropInput).busy = s.busy := rfl
@[simp] theorem State.dropInput_phase : (s.dropInput).phase = s.phase := rfl
@[simp] theorem State.dropInput_cmd : (s.dropInput).cmd = s.cmd := rfl
@[simp] theorem State.dropInput_timeout : (s.dropInput).timeout = s.timeout := rfl
@[simp] theorem State.dropInput_txf : (s.dropInput).txf = s.txf := rfl
@[simp] theorem State.dropInput_rxf : (s.dropInput).rxf = s.rxf := rfl
@[simp] theorem State.dropInput_ovf : (s.dropInput).ovf = s.ovf := rfl
@[simp] theorem State.dropInput_rpl : (s.dropInput).rpl = s.rpl := rfl
@[simp] theorem State.dropInput_status : (s.dropInput).status = s.status := rfl
@[simp] theorem State.dropInput_acc : (s.dropInput).acc = s.acc := rfl
@[simp] theorem State.dropInput_cnt : (s.dropInput).cnt = s.cnt := rfl
@[simp] theorem State.dropInput_lreg : (s.dropInput).lreg = s.lreg := rfl
@[simp] theorem State.dropInput_op : (s.dropInput).op = s.op := rfl
@[simp] theorem State.dropInput_inputs : (s.dropInput).inputs = s.inputs.tail := rfl
@[simp] theorem State.dropInput_answers : (s.dropInput).answers = s.answers := rfl
@[simp] theorem State.dropInput_sent : (s.dropInput).sent = s.sent := rfl
@[simp] theorem State.dropInput_delivered : (s.dropInput).delivered = s.delivered := rfl
@[simp] theorem State.dropInput_fresh : (s.dropInput).fresh = s.fresh := rfl

/-! ## setReady -/

@[simp] theorem State.setReady_lasterr (b : Bool) : (s.setReady b).lasterr = s.lasterr := rfl
@[simp] theorem State.setReady_ready (b : Bool) : (s.setReady b).ready = b := rfl
@[simp] theorem State.setReady_busy (b : Bool) : (s.setReady b).busy = s.busy := rfl
@[simp] theorem State.setReady_phase (b : Bool) : (s.setReady b).phase = s.phase := rfl
@[simp] theorem State.setReady_cmd (b : Bool) : (s.setReady b).cmd = s.cmd := rfl
@[simp] theorem State.setReady_timeout (b : Bool) : (s.setReady b).timeout = s.timeout := rfl
@[simp] theorem State.setReady_txf (b : Bool) : (s.setReady b).txf = s.txf := rfl
@[simp] theorem State.setReady_rxf (b : Bool) : (s.setReady b).rxf = s.rxf := rfl
@[simp] theorem State.setReady_ovf (b : Bool) : (s.setReady b).ovf = s.ovf := rfl
@[simp] theorem State.setReady_rpl (b : Bool) : (s.setReady b).rpl = s.rpl := rfl
@[simp] theorem State.setReady_status (b : Bool) : (s.setReady b).status = s.status := rfl
@[simp] theorem State.setReady_acc (b : Bool) : (s.setReady b).acc = s.acc := rfl
@[simp] theorem State.setReady_cnt (b : Bool) : (s.setReady b).cnt = s.cnt := rfl
@[simp] theorem State.setReady_lreg (b : Bool) : (s.setReady b).lreg = s.lreg := rfl
@[simp] theorem State.setReady_op (b : Bool) : (s.setReady b).op = s.op := rfl
@[simp] theorem State.setReady_inputs (b : Bool) : (s.setReady b).inputs = s.inputs := rfl
@[simp] theorem State.setReady_answers (b : Bool) : (s.setReady b).answers = s.answers := rfl
@[simp] theorem State.setReady_sent (b : Bool) : (s.setReady b).sent = s.sent := rfl
@[simp] theorem State.setReady_delivered (b : Bool) : (s.setReady b).delivered = s.delivered := rfl
@[simp] theorem State.setReady_fresh (b : Bool) : (s.setReady b).fresh = s.fresh := rfl

/-! ## driveRequest -/

@[simp] theorem State.driveRequest_lasterr (r : Request) : (s.driveRequest r).lasterr = s.lasterr := rfl
@[simp] theorem State.driveRequest_ready (r : Request) : (s.driveRequest r).ready = s.ready := rfl
@[simp] theorem State.driveRequest_busy (r : Request) : (s.driveRequest r).busy = false := rfl
@[simp] theorem State.driveRequest_phase (r : Request) : (s.driveRequest r).phase = .idle := rfl
@[simp] theorem State.driveRequest_cmd (r : Request) : (s.driveRequest r).cmd = s.cmd := rfl
@[simp] theorem State.driveRequest_timeout (r : Request) : (s.driveRequest r).timeout = s.timeout := rfl
@[simp] theorem State.driveRequest_txf (r : Request) : (s.driveRequest r).txf = s.txf := rfl
@[simp] theorem State.driveRequest_rxf (r : Request) : (s.driveRequest r).rxf = s.rxf := rfl
@[simp] theorem State.driveRequest_ovf (r : Request) : (s.driveRequest r).ovf = s.ovf := rfl
@[simp] theorem State.driveRequest_rpl (r : Request) : (s.driveRequest r).rpl = s.rpl := rfl
@[simp] theorem State.driveRequest_status (r : Request) : (s.driveRequest r).status = s.status := rfl
@[simp] theorem State.driveRequest_acc (r : Request) : (s.driveRequest r).acc = s.acc := rfl
@[simp] theorem State.driveRequest_cnt (r : Request) : (s.driveRequest r).cnt = s.cnt := rfl
@[simp] theorem State.driveRequest_lreg (r : Request) : (s.driveRequest r).lreg = s.lreg := rfl
@[simp] theorem State.driveRequest_op (r : Request) : (s.driveRequest r).op = s.op := rfl
@[simp] theorem State.driveRequest_inputs (r : Request) : (s.driveRequest r).inputs = .request r :: s.inputs := rfl
@[simp] theorem State.driveRequest_answers (r : Request) : (s.driveRequest r).answers = s.answers := rfl
@[simp] theorem State.driveRequest_sent (r : Request) : (s.driveRequest r).sent = s.sent := rfl
@[simp] theorem State.driveRequest_delivered (r : Request) : (s.driveRequest r).delivered = s.delivered := rfl
@[simp] theorem State.driveRequest_fresh (r : Request) : (s.driveRequest r).fresh = s.fresh := rfl

/-! ## createReset -/

@[simp] theorem State.createReset_lasterr : (s.createReset).lasterr = .ok := rfl
@[simp] theorem State.createReset_ready : (s.createReset).ready = s.ready := rfl
@[simp] theorem State.createReset_busy : (s.createReset).busy = false := rfl
@[simp] theorem State.createReset_phase : (s.createReset).phase = .idle := rfl
@[simp] theorem State.createReset_cmd : (s.createReset).cmd = (Config.freeCmd s.fresh).take Config.payloadMax := rfl
@[simp] theorem State.createReset_timeout : (s.createReset).timeout = Config.freeTimeout s.fresh % 2 ^ Config.timeoutBits := rfl
@[simp] theorem State.createReset_txf : (s.createReset).txf = (Config.freeTxf s.fresh).take Config.frameMax := rfl
@[simp] theorem State.createReset_rxf : (s.createReset).rxf = (Config.freeRxf s.fresh).take Config.frameMax := rfl
@[simp] theorem State.createReset_ovf : (s.createReset).ovf = Config.freeOvf s.fresh := rfl
@[simp] theorem State.createReset_rpl : (s.createReset).rpl = (Config.freeRpl s.fresh).take Config.payloadMax := rfl
@[simp] theorem State.createReset_status : (s.createReset).status = Config.freeStatus s.fresh := rfl
@[simp] theorem State.createReset_acc : (s.createReset).acc = Config.freeAcc s.fresh := rfl
@[simp] theorem State.createReset_cnt : (s.createReset).cnt = Config.freeCnt s.fresh := rfl
@[simp] theorem State.createReset_lreg : (s.createReset).lreg = Config.freeLreg s.fresh := rfl
@[simp] theorem State.createReset_op : (s.createReset).op = s.op := rfl
@[simp] theorem State.createReset_inputs : (s.createReset).inputs = s.inputs := rfl
@[simp] theorem State.createReset_answers : (s.createReset).answers = s.answers := rfl
@[simp] theorem State.createReset_sent : (s.createReset).sent = s.sent := rfl
@[simp] theorem State.createReset_delivered : (s.createReset).delivered = s.delivered := rfl
@[simp] theorem State.createReset_fresh : (s.createReset).fresh = s.fresh + 1 := rfl

/-! ## drawAnswer -/

@[simp] theorem State.drawAnswer_lasterr : s.drawAnswer.lasterr = s.lasterr := by
  unfold State.drawAnswer; split <;> rfl
@[simp] theorem State.drawAnswer_ready : s.drawAnswer.ready = s.ready := by
  unfold State.drawAnswer; split <;> rfl
@[simp] theorem State.drawAnswer_busy : s.drawAnswer.busy = s.busy := by
  unfold State.drawAnswer; split <;> rfl
@[simp] theorem State.drawAnswer_phase : s.drawAnswer.phase = s.phase := by
  unfold State.drawAnswer; split <;> rfl
@[simp] theorem State.drawAnswer_cmd : s.drawAnswer.cmd = s.cmd := by
  unfold State.drawAnswer; split <;> rfl
@[simp] theorem State.drawAnswer_timeout : s.drawAnswer.timeout = s.timeout := by
  unfold State.drawAnswer; split <;> rfl
@[simp] theorem State.drawAnswer_txf : s.drawAnswer.txf = s.txf := by
  unfold State.drawAnswer; split <;> rfl
@[simp] theorem State.drawAnswer_rxf : s.drawAnswer.rxf = s.rxf := by
  unfold State.drawAnswer; split <;> rfl
@[simp] theorem State.drawAnswer_ovf : s.drawAnswer.ovf = s.ovf := by
  unfold State.drawAnswer; split <;> rfl
@[simp] theorem State.drawAnswer_rpl : s.drawAnswer.rpl = s.rpl := by
  unfold State.drawAnswer; split <;> rfl
@[simp] theorem State.drawAnswer_status : s.drawAnswer.status = s.status := by
  unfold State.drawAnswer; split <;> rfl
@[simp] theorem State.drawAnswer_acc : s.drawAnswer.acc = s.acc := by
  unfold State.drawAnswer; split <;> rfl
@[simp] theorem State.drawAnswer_cnt : s.drawAnswer.cnt = s.cnt := by
  unfold State.drawAnswer; split <;> rfl
@[simp] theorem State.drawAnswer_lreg : s.drawAnswer.lreg = s.lreg := by
  unfold State.drawAnswer; split <;> rfl
@[simp] theorem State.drawAnswer_op : s.drawAnswer.op = s.op := by
  unfold State.drawAnswer; split <;> rfl
@[simp] theorem State.drawAnswer_inputs : s.drawAnswer.inputs = s.inputs := by
  unfold State.drawAnswer; split <;> rfl
@[simp] theorem State.drawAnswer_answers : s.drawAnswer.answers = s.answers.tail := by
  unfold State.drawAnswer; split <;> simp [*]
@[simp] theorem State.drawAnswer_sent : s.drawAnswer.sent = s.sent := by
  unfold State.drawAnswer; split <;> rfl
@[simp] theorem State.drawAnswer_delivered : s.drawAnswer.delivered = s.delivered := by
  unfold State.drawAnswer; split <;> rfl
theorem State.drawAnswer_fresh_listed (h : s.answers ≠ []) : s.drawAnswer.fresh = s.fresh := by
  unfold State.drawAnswer; split <;> simp_all

/-- A listed answer is the one the transport gives. -/
theorem State.answer_of_head {a : List Byte} (h : s.answers.head? = some a) : s.answer = a := by
  unfold State.answer; split <;> simp_all

/-- A listed answer is taken off the list and no free value is drawn. -/
theorem State.drawAnswer_of_head {a : List Byte} (h : s.answers.head? = some a) :
    s.drawAnswer = { s with answers := s.answers.tail } := by
  unfold State.drawAnswer; split <;> simp_all

end Sys2Proof.Machine
end

