-- ==== Sys2Proof/Laws/Sequencer.lean ====
section
/-! SUPPORT. What the shared operations of SEND can do, said once each: if the operation answers a next state, then
one of these cases holds. Later proofs cite these and do not unfold the sequencer. -/

namespace Sys2Proof.Machine

/-- An operation has ended from `s`: by success, or through the error entry with the data of its failure. -/
inductive Ended (s t : State) : Prop where
  | success (d : Data) (h : t = s.succeed d)
  | failure (f : Failure) (h : t = s.errorEntry f (failureData s.op f))

/-- Only TagNotFound comes with data (60 R190). -/
theorem failureData_of_ne {o : Op} {f : Failure} (h : f ≠ .tagNotFound) : failureData o f = .none := by
  simp [failureData, h]

/-- Reading a reply ends the operation. -/
theorem finish_next {r : List Byte} {s t : State} (h : finish r s = .next t) : Ended s t := by
  unfold finish at h
  split at h <;> rename_i ho
  · cases h; exact .success _ rfl
  · cases h; exact .success _ rfl
  · unfold finishGetversion at h
    split at h
    · cases h; exact .success _ rfl
    · cases h
  all_goals
    simp only [finishStopcont, finishStartcont, finishSetbuzzer, finishIdentify, finishReadwords,
      finishWritewords, Host.Outcome.next.injEq] at h
    split at h
    · exact .success _ h.symm
    · exact .failure _ (by rw [← h, ho]; rfl)

/-- Reading a reply never faults, and refuses only a short version reply. -/
theorem finish_total (r : List Byte) (s : State) :
    (∃ t, finish r s = .next t) ∨ (s.op = .getversion ∧ r.length < 2 ∧
      finish r s = .refused .versionReplyTooShort) := by
  unfold finish
  split
  case h_3 hop =>
    match r with
    | [] => exact .inr ⟨hop, by simp, rfl⟩
    | [_] => exact .inr ⟨hop, by simp, rfl⟩
    | a :: b :: r => exact .inl ⟨_, rfl⟩
  all_goals exact .inl ⟨_, rfl⟩

theorem runCorr_next {s t : State} (h : runCorr s = .next t) : Ended s t := by
  unfold runCorr at h
  split at h
  · exact finish_next h
  · cases h; exact .failure _ rfl

/-- From DEC the operation ends, either before RPL is written or after. -/
theorem runDec_next {s t : State} (h : runDec s = .next t) :
    (∃ f, decodeReceived s.rxf s.ovf = .err f ∧ t = s.errorEntry f .none) ∨
    ∃ p, decodeReceived s.rxf s.ovf = .ok p ∧ Ended (s.toCorr p) t := by
  unfold runDec at h
  split at h
  · cases h; exact .inl ⟨_, ‹_›, rfl⟩
  · exact .inr ⟨_, ‹_›, runCorr_next h⟩

/-- Once RXF is written the operation ends. -/
theorem runReceived_next {s t : State} (h : runReceived s = .next t) :
    (s.rxf = [] ∧ t = s.errorEntry .noReply .none) ∨
    (∃ f, decodeReceived s.rxf s.ovf = .err f ∧ t = s.toDec.errorEntry f .none) ∨
    ∃ p, decodeReceived s.rxf s.ovf = .ok p ∧ Ended (s.toDec.toCorr p) t := by
  unfold runReceived at h
  split at h
  · cases h; exact .inl ⟨‹_›, rfl⟩
  · exact .inr (runDec_next h)

/-- A SEND leaves ENC to wait in XCHG where no answer is listed, and ends where one is. -/
theorem runEnc_cases (s : State) :
    (s.answers = [] ∧ runEnc s = .next s.handOver) ∨
    (s.answers ≠ [] ∧ runEnc s = runXchg s.handOver) := by
  unfold runEnc
  split <;> simp_all

/-- SEND answers a next state only on an accepted request. -/
theorem exchange_next {o : Op} {c : List Byte} {ms : Nat} {s t : State} (h : exchange o c ms s = .next t) :
    s.busy = false ∧ s.ready = true ∧ 2 ≤ c.length ∧ c.length ≤ Config.payloadMax ∧
      ms < 2 ^ Config.timeoutBits ∧ runEnc (s.issue o c ms) = .next t := by
  unfold exchange at h
  repeat' split at h
  all_goals first | (exact absurd h (by simp)) | skip
  simp only [Bool.not_eq_true, Bool.not_eq_true', Bool.not_eq_false, fitsTimeout_iff, not_lt] at *
  exact ⟨‹_›, ‹_›, by omega, by omega, by omega, h⟩

/-- SEND on a request that meets the preconditions (41 R133). -/
theorem exchange_accepted {o : Op} {c : List Byte} {ms : Nat} {s : State} (hb : s.busy = false)
    (hr : s.ready = true) (h2 : 2 ≤ c.length) (hm : c.length ≤ Config.payloadMax)
    (ht : ms < 2 ^ Config.timeoutBits) : exchange o c ms s = runEnc (s.issue o c ms) := by
  unfold exchange
  have h1 : ¬ c.length < 2 := by omega
  have h3 : ¬ Config.payloadMax < c.length := by omega
  have h4 := (fitsTimeout_iff ms).mpr ht
  simp [hb, hr, h1, h3, h4]

/-- An operation without a SEND. -/
theorem immediate_next {s t u : State} (h : immediate s t = .next u) : s.busy = false ∧ u = t := by
  unfold immediate at h
  split at h
  · cases h
  · cases h; exact ⟨Bool.not_eq_true _ ▸ ‹¬_›, rfl⟩

end Sys2Proof.Machine
end

