-- ==== Sys2Proof/Laws/Exchange.lean ====
section
/-! SUPPORT. One exchange with a listed answer, said once: it fails as `sendResult` fails, or it reads the stripped
reply from a state whose end is an `Exchanged` one. -/

namespace Sys2Proof.Machine

/-- What RXF and OVF keep of a message decodes as the message does (10 R25): a longer one fails either way. -/
theorem decodeReceived_take (m : List Byte) :
    decodeReceived (m.take Config.frameMax) (decide (Config.frameMax < m.length)) = decodeFrame m := by
  by_cases h : Config.frameMax < m.length
  · rw [decodeReceived, if_pos (by simpa using h)]
    match m with
    | [] => rfl
    | [_] => rfl
    | a :: l :: r =>
      have := l.isLt
      simp only [decodeFrame]
      rw [if_pos (by simp only [Config.frameMax] at h; omega)]
  · rw [decodeReceived, if_neg (by simpa using h), List.take_of_length_le (by omega)]

/-- The state in which the answer `a` has just been received (41 R131 step 2). -/
def State.received (s : State) (o : Op) (c : List Byte) (ms : Nat) (a : List Byte) : State :=
  (s.issue o c ms).handOver.drawAnswer.receive a

/-- An accepted SEND with a listed answer runs on from the received answer. -/
theorem exchange_receives {s : State} {a c : List Byte} {o : Op} {ms : Nat} (h : s.Answers a)
    (h2 : 2 ≤ c.length) (hm : c.length ≤ Config.payloadMax) (ht : ms < 2 ^ Config.timeoutBits) :
    exchange o c ms s = runReceived (s.received o c ms a) := by
  rw [exchange_accepted h.idle h.ready h2 hm ht]
  have hne : (s.issue o c ms).answers ≠ [] := by
    intro hh
    have := h.next
    simp at hh
    simp [hh] at this
  obtain ⟨h1, -⟩ | ⟨-, h1⟩ := runEnc_cases (s.issue o c ms)
  · exact absurd h1 hne
  · rw [h1, runXchg, State.answer_of_head _ (a := a) (by simpa using h.next)]
    rfl

/-- The states an exchange ends from: the received one, or the one whose RPL holds the decoded payload. -/
inductive EndsFrom (s : State) (o : Op) (c : List Byte) (ms : Nat) (a : List Byte) : State → Prop where
  | received (h : ∀ p, decodeFrame a ≠ .ok p) : EndsFrom s o c ms a (s.received o c ms a)
  | undecoded (h : ∀ p, decodeFrame a ≠ .ok p) : EndsFrom s o c ms a (s.received o c ms a).toDec
  | decoded (p : List Byte) (h : decodeFrame a = .ok p) :
      EndsFrom s o c ms a ((s.received o c ms a).toDec.toCorr p)

theorem replyPayloadAfter_of_ne {a old : List Byte} (h : ∀ p, decodeFrame a ≠ .ok p) :
    replyPayloadAfter old a = old := by
  unfold replyPayloadAfter
  split
  · exact absurd ‹_› (h _)
  · rfl

theorem replyPayloadAfter_of_ok {a p old : List Byte} (h : decodeFrame a = .ok p) :
    replyPayloadAfter old a = p := by simp [replyPayloadAfter, h]

/-- Ending there with success is the whole of `Exchanged`. -/
theorem EndsFrom.succeed {s b : State} {o : Op} {c a : List Byte} {ms : Nat} (h : s.Answers a)
    (hb : EndsFrom s o c ms a b) (d : Data) : Exchanged s (b.succeed d) o c ms a ⟨.ok, d⟩ := by
  have hn : s.answers ≠ [] := fun hh => by have := h.next; simp [hh] at this
  have hf : (s.issue o c ms).handOver.drawAnswer.fresh = s.fresh := by
    rw [State.drawAnswer_fresh_listed _ (by simpa using hn)]
    simp
  cases hb with
  | received h | undecoded h =>
    constructor <;> simp [State.received, lastErrorAfter, replyPayloadAfter_of_ne h, hf]
  | decoded p h =>
    constructor <;> simp [State.received, lastErrorAfter, replyPayloadAfter_of_ok h, hf]

/-- Ending there through the error entry is the whole of `Exchanged`. -/
theorem EndsFrom.errorEntry {s b : State} {o : Op} {c a : List Byte} {ms : Nat} (h : s.Answers a)
    (hb : EndsFrom s o c ms a b) (f : Failure) (d : Data) :
    Exchanged s (b.errorEntry f d) o c ms a ⟨.failed f, d⟩ := by
  have hn : s.answers ≠ [] := fun hh => by have := h.next; simp [hh] at this
  have hf : (s.issue o c ms).handOver.drawAnswer.fresh = s.fresh := by
    rw [State.drawAnswer_fresh_listed _ (by simpa using hn)]
    simp
  cases hb with
  | received h | undecoded h =>
    constructor <;> simp [State.received, lastErrorAfter, replyPayloadAfter_of_ne h, hf]
  | decoded p h =>
    constructor <;> simp [State.received, lastErrorAfter, replyPayloadAfter_of_ok h, hf]

/-- Where SEND fails, so does the exchange, for whatever operation it runs. -/
theorem exchange_fails {s : State} {a c : List Byte} {o : Op} {ms : Nat} {f : Failure} (h : s.Answers a)
    (h2 : 2 ≤ c.length) (hm : c.length ≤ Config.payloadMax) (ht : ms < 2 ^ Config.timeoutBits)
    (hr : sendResult c a = .err f) :
    ∃ b, EndsFrom s o c ms a b ∧ exchange o c ms s = .next (b.errorEntry f .none) := by
  rw [exchange_receives h h2 hm ht]
  have hrx : (s.received o c ms a).rxf = a.take Config.frameMax := by simp [State.received]
  have hov : (s.received o c ms a).ovf = decide (Config.frameMax < a.length) := by simp [State.received]
  have hc : (s.received o c ms a).cmd = c := by simp [State.received]
  unfold sendResult at hr
  split at hr
  · rename_i hn
    cases hr
    subst hn
    exact ⟨_, .received (by simp [decodeFrame]), by rw [runReceived, if_pos (by simp [hrx])]⟩
  · rename_i hn
    rw [runReceived, if_neg (by simp [hrx, hn, Config.frameMax]), runDec]
    simp only [State.toDec_rxf, State.toDec_ovf, hrx, hov, decodeReceived_take]
    revert hr
    cases hd : decodeFrame a with
    | err f' =>
      intro hr
      cases hr
      exact ⟨_, .undecoded (by simp [hd]), rfl⟩
    | ok p =>
      intro hr
      replace hr : (if echoes c p = true then Res.ok (stripEcho p) else Res.err .unsolicited) = .err f := hr
      split at hr
      · cases hr
      · rename_i he
        cases hr
        exact ⟨_, .decoded p hd, by simp [runCorr, hc, he]⟩

/-- Where SEND succeeds, the operation reads the stripped reply. -/
theorem exchange_reads {s : State} {a c r : List Byte} {o : Op} {ms : Nat} (h : s.Answers a)
    (h2 : 2 ≤ c.length) (hm : c.length ≤ Config.payloadMax) (ht : ms < 2 ^ Config.timeoutBits)
    (hr : sendResult c a = .ok r) :
    ∃ b, EndsFrom s o c ms a b ∧ b.op = o ∧ b.cmd = c ∧ exchange o c ms s = finish r b := by
  rw [exchange_receives h h2 hm ht]
  have hrx : (s.received o c ms a).rxf = a.take Config.frameMax := by simp [State.received]
  have hov : (s.received o c ms a).ovf = decide (Config.frameMax < a.length) := by simp [State.received]
  have hc : (s.received o c ms a).cmd = c := by simp [State.received]
  unfold sendResult at hr
  split at hr
  · cases hr
  · rename_i hn
    rw [runReceived, if_neg (by simp [hrx, hn, Config.frameMax]), runDec]
    simp only [State.toDec_rxf, State.toDec_ovf, hrx, hov, decodeReceived_take]
    revert hr
    cases hd : decodeFrame a with
    | err f' => intro hr; cases hr
    | ok p =>
      intro hr
      replace hr : (if echoes c p = true then Res.ok (stripEcho p) else Res.err .unsolicited) = .ok r := hr
      split at hr
      · rename_i he
        cases hr
        exact ⟨_, .decoded p hd, by simp [State.received], by simp [State.received], by simp [runCorr, hc, he]⟩
      · cases hr

end Sys2Proof.Machine
end

