-- ==== Sys2Proof/Laws/Dispatch.lean ====
section
/-! SUPPORT. What `exec` can do, said once: an operation with a SEND is its exchange (30_encoding R92) or refuses its
operands; any other operation delivers one result on an idle block, or is CREATE. -/

namespace Sys2Proof.Machine

/-- An operation with a SEND refuses ill-formed operands, whatever the state, or is its exchange. -/
theorem exec_exchange {i : Instr} {o : Op} {c : List Byte} {ms : Nat} (hx : exchangeOf i = some (o, c, ms)) :
    (i.wellFormed = false ∧ ∃ r, ∀ s, exec i s = .refused r) ∨ ∀ s, exec i s = exchange o c ms s := by
  cases i <;> simp only [exchangeOf, Option.some.injEq, Prod.mk.injEq, reduceCtorEq] at hx <;>
    obtain ⟨rfl, rfl, rfl⟩ := hx
  case readwords b a n =>
    by_cases h : (fitsByte b && fitsByte a && fitsByte n) = true
    · exact .inr fun s => by rw [exec, execReadwords, if_pos h]; rfl
    · exact .inl ⟨by simpa only [Instr.wellFormed, Bool.not_eq_true] using h, _,
        fun s => by rw [exec, execReadwords, if_neg h]⟩
  case setbuzzer m =>
    by_cases h : fitsByte m = true
    · exact .inr fun s => by rw [exec, execSetbuzzer, if_pos h]; rfl
    · exact .inl ⟨by simpa only [Instr.wellFormed, Bool.not_eq_true] using h, _,
        fun s => by rw [exec, execSetbuzzer, if_neg h]⟩
  case writewords b a d =>
    by_cases h1 : (!(fitsByte b && fitsByte a)) = true
    · exact .inl ⟨by simp only [Instr.wellFormed, Bool.not_eq_true'] at *; simp only [h1, Bool.false_and], _,
        fun s => by rw [exec, execWritewords, if_pos h1]⟩
    by_cases h2 : Config.wordsMaxWrite < d.length
    · exact .inl ⟨by simp only [Instr.wellFormed]; simp [Nat.not_le.mpr h2], _,
        fun s => by rw [exec, execWritewords, if_neg h1, if_pos h2]⟩
    by_cases h3 : (!d.all fitsTagWord) = true
    · exact .inl ⟨by simp only [Instr.wellFormed, Bool.not_eq_true'] at *; simp only [h3, Bool.and_false], _,
        fun s => by rw [exec, execWritewords, if_neg h1, if_neg h2, if_pos h3]⟩
    · exact .inr fun s => by rw [exec, execWritewords, if_neg h1, if_neg h2, if_neg h3]; rfl
  case raw cmd =>
    by_cases h : (cmd.head?.elim true isRawOpcode) = true
    · exact .inr fun s => by rw [exec, execRaw, if_pos h]
    · exact .inl ⟨by cases cmd <;> simp_all [Instr.wellFormed], _,
        fun s => by rw [exec, execRaw, if_neg h]⟩
  all_goals exact .inr fun _ => rfl

/-- A well-formed operation with a SEND meets SEND's preconditions on its operands (41 R133 (c) to (e)). -/
theorem exchangeOf_wellFormed {i : Instr} {o : Op} {c : List Byte} {ms : Nat}
    (hx : exchangeOf i = some (o, c, ms)) (h : i.wellFormed = true) :
    2 ≤ c.length ∧ c.length ≤ Config.payloadMax ∧ ms < 2 ^ Config.timeoutBits := by
  cases i <;> simp only [exchangeOf, Option.some.injEq, Prod.mk.injEq, reduceCtorEq] at hx <;>
    obtain ⟨rfl, rfl, rfl⟩ := hx <;>
    have ht : 1000 < 2 ^ Config.timeoutBits := defaultTimeout_lt <;>
    simp [Instr.wellFormed, commandLengthOk, bytesOf_length, Config.payloadMax,
      Config.wordsMaxWrite, ht] at * <;>
    omega

/-- So on an idle, ready block it is an accepted exchange. -/
theorem exec_wellFormed {i : Instr} {o : Op} {c : List Byte} {ms : Nat} {s : State}
    (hx : exchangeOf i = some (o, c, ms)) (h : i.wellFormed = true) : exec i s = exchange o c ms s := by
  obtain ⟨h', -⟩ | h' := exec_exchange hx
  · simp [h] at h'
  · exact h' s

/-- The working registers an operation without a SEND may use before it delivers. -/
inductive Works (s : State) : State → Prop where
  | none : Works s s
  | packer (p : List Byte) : Works s (s.usePacker p)
  | unpacker (m : List Byte) : Works s (s.useUnpacker m)
  | accumulator (q : List Byte) : Works s (s.useAccumulator q)

/-- An operation without a SEND that answers a next state: CREATE, or one delivery on an idle block, with a
status that is OK or one of the two mismatches. -/
theorem exec_immediate {i : Instr} {s t : State} (hx : exchangeOf i = none) (h : exec i s = .next t) :
    s.busy = false ∧ ((i = .create ∧ t = s.createReset) ∨
      ∃ u k d, Works s u ∧ t = u.deliver k d ∧
        (k = .ok ∨ k = .failed .lengthMismatch ∨ k = .failed .checksumMismatch)) := by
  cases i <;> simp only [exchangeOf, reduceCtorEq] at hx
  case chk8 q =>
    obtain ⟨hb, rfl⟩ := immediate_next h
    exact ⟨hb, .inr ⟨_, _, _, .accumulator q, rfl, .inl rfl⟩⟩
  case encode p =>
    simp only [exec, execEncode] at h
    split at h
    · obtain ⟨hb, rfl⟩ := immediate_next h
      exact ⟨hb, .inr ⟨_, _, _, .packer p, rfl, .inl rfl⟩⟩
    · cases h
  case decode f =>
    obtain ⟨hb, rfl⟩ := immediate_next h
    refine ⟨hb, .inr ⟨_, _, _, .unpacker f, rfl, ?_⟩⟩
    cases hd : decodeFrame f with
    | ok p => exact .inl rfl
    | err k => obtain rfl | rfl := decodeFrame_err hd <;> simp [Res.status]
  case getlasterror =>
    obtain ⟨hb, rfl⟩ := immediate_next h
    exact ⟨hb, .inr ⟨_, _, _, .none, rfl, .inl rfl⟩⟩
  case words q =>
    obtain ⟨hb, rfl⟩ := immediate_next h
    exact ⟨hb, .inr ⟨_, _, _, .none, rfl, .inl rfl⟩⟩
  case bytes ws =>
    simp only [exec, execBytes] at h
    split at h
    · obtain ⟨hb, rfl⟩ := immediate_next h
      exact ⟨hb, .inr ⟨_, _, _, .none, rfl, .inl rfl⟩⟩
    · cases h
  case create =>
    obtain ⟨hb, rfl⟩ := immediate_next h
    exact ⟨hb, .inl ⟨rfl, rfl⟩⟩
  case reserved => cases h

end Sys2Proof.Machine
end

