-- ==== Sys2Proof/Laws/PerInstr.lean ====
section
/-! SUPPORT. Family Opsel: an operation with an OPSEL request is the one the decoder reads from that request
(30_encoding R93), one lemma per constructor. -/

namespace Sys2Proof.Laws.Opsel

/-- The host space round trip for one operation. -/
def Statement (i : Instr) : Prop := ∀ r, encodeHost i = some r → decodeHost r = i

theorem startcont : Statement .startcont := by intro r h; cases h; rfl
theorem getversion : Statement .getversion := by intro r h; cases h; rfl
theorem readwords (bank addr n : Nat) : Statement (.readwords bank addr n) := by intro r h; cases h; rfl
theorem writewords (bank addr : Nat) (data : List Nat) : Statement (.writewords bank addr data) := by
  intro r h; cases h; rfl
theorem identify : Statement .identify := by intro r h; cases h; rfl
theorem rawA6 (args : List Byte) : Statement (.rawA6 args) := by intro r h; cases h
theorem stopcont : Statement .stopcont := by intro r h; cases h; rfl
theorem setbuzzer (mode : Nat) : Statement (.setbuzzer mode) := by intro r h; cases h; rfl
theorem rawFC (args : List Byte) : Statement (.rawFC args) := by intro r h; cases h
theorem rawFF (args : List Byte) : Statement (.rawFF args) := by intro r h; cases h
theorem chk8 (s : List Byte) : Statement (.chk8 s) := by intro r h; cases h; rfl
theorem encode (payload : List Byte) : Statement (.encode payload) := by intro r h; cases h; rfl
theorem decode (frame : List Byte) : Statement (.decode frame) := by intro r h; cases h; rfl
theorem send (command : List Byte) (timeout : Nat) : Statement (.send command timeout) := by
  intro r h; cases h; rfl
theorem getlasterror : Statement .getlasterror := by intro r h; cases h; rfl
theorem words (s : List Byte) : Statement (.words s) := by intro r h; cases h; rfl
theorem bytes (ws : List Nat) : Statement (.bytes ws) := by intro r h; cases h; rfl
theorem raw (cmd : List Byte) : Statement (.raw cmd) := by intro r h; cases h; rfl
theorem create : Statement .create := by intro r h; cases h
theorem reserved : Statement .reserved := by intro r h; cases h; rfl

end Sys2Proof.Laws.Opsel
end

