-- ==== Sys2Proof/Tests/Slice0.lean ====
section
/-! SUPPORT. The model's own tests: operand checks, decoding of words written out from the spec, vectors of
95_test_vectors for each operation, and a witness for the hypotheses of each statement of
Sys2Proof/Certificates/Slice0/Obligations.lean. Expected values are the spec's. -/

namespace Sys2Proof.Tests

open Sys2Proof.Machine

/-! ## Helpers -/

/-- Reset, with the transport's next answer listed. -/
def listening (a : List Byte) : State := { State.reset with answers := [a] }

theorem listening_answers (a : List Byte) : (listening a).Answers a := ⟨rfl, rfl, rfl⟩

/-- Delivered results, LASTERR.KIND and frames sent after an operation. -/
def seen : Out → Option (List Delivery × Kind × List (List Byte))
  | .next t => some (t.delivered, t.lasterr, t.sent.map Transmission.frame)
  | .fault _ => none
  | .refused _ => none

/-- The refusal of an outcome. -/
def refusal : Out → Option Refusal
  | .next _ => none
  | .fault _ => none
  | .refused r => some r

/-- A step taken twice. -/
def twice (s : State) : Out :=
  match step s with
  | .next t => step t
  | .fault e => .fault e
  | .refused r => .refused r

/-- GETVERSION waiting in XCHG. -/
def waiting (o : Op) : State :=
  { State.reset with
    busy := true, phase := .xchg, op := o, cmd := [0x6A, 0x00], txf := [0xA0, 0x03, 0x6A, 0x00, 0xF3]
    timeout := 1000 }

theorem waiting_inv (o : Op) : (waiting o).Inv := by
  cases o <;>
    exact ⟨by decide, by decide, by decide, by decide, by decide, by decide, by decide, defaultTimeout_lt⟩

/-! ## WellFormed: an ill-formed term for each check -/

theorem test_illformed_bank : (Instr.readwords 256 0 1).wellFormed = false := by decide
theorem test_illformed_addr : (Instr.readwords 0 256 1).wellFormed = false := by decide
theorem test_illformed_count : (Instr.readwords 0 0 256).wellFormed = false := by decide
theorem test_illformed_write_bank : (Instr.writewords 256 0 []).wellFormed = false := by decide
theorem test_illformed_write_addr : (Instr.writewords 0 256 []).wellFormed = false := by decide
theorem test_illformed_write_word : (Instr.writewords 0 0 [65536]).wellFormed = false := by decide
theorem test_illformed_write_many : (Instr.writewords 3 0 (List.replicate 125 0)).wellFormed = false := by decide +kernel
theorem test_wellformed_write_most : (Instr.writewords 3 0 (List.replicate 124 0xABCD)).wellFormed = true := by decide +kernel
theorem test_illformed_mode : (Instr.setbuzzer 256).wellFormed = false := by decide
theorem test_illformed_rawA6 : (Instr.rawA6 []).wellFormed = false := by decide
theorem test_illformed_rawFC : (Instr.rawFC []).wellFormed = false := by decide
theorem test_illformed_rawFF : (Instr.rawFF (List.replicate 254 0)).wellFormed = false := by decide +kernel
theorem test_illformed_payload : (Instr.encode (List.replicate 255 0)).wellFormed = false := by decide +kernel
theorem test_illformed_send_short : (Instr.send [0x6A] 1000).wellFormed = false := by decide
theorem test_illformed_send_long : (Instr.send (List.replicate 255 0) 1000).wellFormed = false := by decide +kernel
theorem test_illformed_send_timeout : (Instr.send [0x6A, 0x00] (2 ^ Config.timeoutBits)).wellFormed = false := by
  simp [Instr.wellFormed, commandLengthOk, Bool.eq_false_iff]
theorem test_illformed_bytes : (Instr.bytes [0x10000]).wellFormed = false := by decide
theorem test_illformed_raw_opcode : (Instr.raw [0x6A, 0x00]).wellFormed = false := by decide
theorem test_illformed_raw_empty : (Instr.raw []).wellFormed = false := by decide
theorem test_illformed_reserved : Instr.reserved.wellFormed = false := by decide

/-! ## Decoding: a word written out for each constructor (30_encoding R74 to R78, R85, R93; 92 D2) -/

theorem test_decode_startcont : decodeCommand [0x65, 0x00] = .ok .startcont := by decide
theorem test_decode_getversion : decodeCommand [0x6A, 0x00] = .ok .getversion := by decide
theorem test_decode_readwords : decodeCommand [0x80, 0x00, 0x03, 0x00, 0x08] = .ok (.readwords 3 0 8) := by decide
theorem test_decode_writewords : decodeCommand [0x81, 0x00, 0x01, 0x01, 0x02, 0x01, 0xFF, 0xFE] =
    .ok (.writewords 1 2 [0xFFFE]) := by decide
theorem test_decode_identify : decodeCommand [0x82, 0x00] = .ok .identify := by decide
theorem test_decode_rawA6 : decodeCommand [0xA6, 0x01] = .ok (.rawA6 [0x01]) := by decide
theorem test_decode_stopcont : decodeCommand [0xA8, 0x00] = .ok .stopcont := by decide
theorem test_decode_setbuzzer : decodeCommand [0xB0, 0x00, 0xFF] = .ok (.setbuzzer 0xFF) := by decide
theorem test_decode_rawFC : decodeCommand [0xFC, 0x00] = .ok (.rawFC [0x00]) := by decide
theorem test_decode_rawFF : decodeCommand [0xFF, 0x00, 0x07] = .ok (.rawFF [0x00, 0x07]) := by decide
theorem test_decode_chk8 : decodeRequest (.host { opsel := 0, seq := [0x80, 0x80] }) = .ok (.chk8 [0x80, 0x80]) := by decide
theorem test_decode_encode : decodeRequest (.host { opsel := 1, seq := [0x5F] }) = .ok (.encode [0x5F]) := by decide
theorem test_decode_decode : decodeRequest (.host { opsel := 2, seq := [0xA0] }) = .ok (.decode [0xA0]) := by decide
theorem test_decode_send : decodeRequest (.host { opsel := 3, seq := [0x6A, 0x00], timeout := 7 }) =
    .ok (.send [0x6A, 0x00] 7) := by decide
theorem test_decode_getlasterror : decodeRequest (.host { opsel := 4 }) = .ok .getlasterror := by decide
theorem test_decode_words : decodeRequest (.host { opsel := 5, seq := [0x12] }) = .ok (.words [0x12]) := by decide
theorem test_decode_bytes : decodeRequest (.host { opsel := 6, words := [0x10000] }) = .ok (.bytes [0x10000]) := by decide
theorem test_decode_raw : decodeRequest (.host { opsel := 7, seq := [0xFC, 0x00] }) = .ok (.raw [0xFC, 0x00]) := by decide
theorem test_decode_create : decodeRequest .reset = .ok .create := by decide
theorem test_decode_reserved : decodeRequest (.host { opsel := 15 }) = .ok .reserved := by decide
theorem test_decode_select_13 : decodeRequest (.host { opsel := 13, bank := 1, addr := 2, n := 6 }) =
    .ok (.readwords 1 2 6) := by decide

/-! The decoder's rejections, one each (30 R78, R84, R87, R88). -/

theorem test_reject_empty : decodeCommand [] = .reject .emptyCommand := by decide
theorem test_reject_opcode : decodeCommand [0x83, 0x00] = .reject .unknownOpcode := by decide
theorem test_reject_reserved_byte : decodeCommand [0x6A, 0x01] = .reject .reservedByte := by decide
theorem test_reject_length : decodeCommand [0xB0, 0x00] = .reject .wrongLength := by decide
theorem test_reject_count : decodeCommand [0x81, 0x00, 0x01, 0x03, 0x00, 0x02, 0x12, 0x34] = .reject .wrongCount := by decide
theorem test_reject_write_mode : decodeCommand [0x81, 0x00, 0x00, 0x03, 0x00, 0x01, 0x12, 0x34] =
    .reject .wrongWriteMode := by decide

/-- Table words of both spaces. -/
theorem test_table_words : decodeTableWord 16 0x8100 = some (.writewords 0 0 []) ∧
    decodeTableWord 16 0xA600 = some (.rawA6 [0x00]) ∧ decodeTableWord 8 15 = some .reserved ∧
    decodeTableWord 8 16 = none := by decide

/-- The next step runs a table word's operation, from reset (95 V-CMD-VER frame). -/
theorem test_fetch_word : seen (step (State.reset.withFetchWord 16 0x6A00)) =
    some ([], .ok, [[0xA0, 0x03, 0x6A, 0x00, 0xF3]]) := by decide

/-! ## The operations, on vectors of 95_test_vectors -/

/-- V-CHK-6. -/
theorem test_chk8_getversion : seen (exec (.chk8 [0xA0, 0x03, 0x6A, 0x00]) State.reset) =
    some ([⟨.ok, .byte 0xF3⟩], .ok, []) := by decide
/-- V-CHK-4. -/
theorem test_chk8_wraps : seen (exec (.chk8 [0x80, 0x80]) State.reset) = some ([⟨.ok, .byte 0⟩], .ok, []) := by decide
/-- V-ENC-1. -/
theorem test_encode_empty : seen (exec (.encode []) State.reset) =
    some ([⟨.ok, .bytes [0xA0, 0x01, 0x5F]⟩], .ok, []) := by decide
/-- P4 step 1. -/
theorem test_encode_three : seen (exec (.encode [1, 2, 3]) State.reset) =
    some ([⟨.ok, .bytes [0xA0, 0x04, 0x01, 0x02, 0x03, 0x56]⟩], .ok, []) := by decide
/-- V-DEC-12: wrong in both ways, the length is reported; LASTERR is not written. -/
theorem test_decode_length_first : seen (exec (.decode [0xA0, 0x04, 0x6A, 0x00, 0xF3]) State.reset) =
    some ([⟨.failed .lengthMismatch, .none⟩], .ok, []) := by decide
/-- V-DEC-14: the prefix is not checked. -/
theorem test_decode_prefix : seen (exec (.decode [0xE0, 0x03, 0x6A, 0x00, 0xB3]) State.reset) =
    some ([⟨.ok, .bytes [0x6A, 0x00]⟩], .ok, []) := by decide
/-- V-WRD-6: no sign extension. -/
theorem test_words_high_first : seen (exec (.words [0x00, 0x00, 0xFF, 0xFF, 0x80, 0x00, 0x00, 0x80]) State.reset) =
    some ([⟨.ok, .words [0x0000, 0xFFFF, 0x8000, 0x0080]⟩], .ok, []) := by decide
/-- V-WRD-4: odd tail dropped. -/
theorem test_words_odd : seen (exec (.words [0x12, 0x34, 0x56]) State.reset) =
    some ([⟨.ok, .words [0x1234]⟩], .ok, []) := by decide
/-- V-WRD-11. -/
theorem test_bytes_order : seen (exec (.bytes [0x0100, 0x0001]) State.reset) =
    some ([⟨.ok, .bytes [0x01, 0x00, 0x00, 0x01]⟩], .ok, []) := by decide
/-- V-WRD-12. -/
theorem test_bytes_refused : refusal (exec (.bytes [0x10000]) State.reset) = some .notATagWord := by decide
/-- V-SND-2. -/
theorem test_send_ok : seen (exec (.send [0x6A, 0x00] 1000) (listening [0xA0, 0x05, 0x6A, 0x00, 0x01, 0x02, 0xEE])) =
    some ([⟨.ok, .bytes [0x01, 0x02]⟩], .ok, [[0xA0, 0x03, 0x6A, 0x00, 0xF3]]) := by decide
/-- V-SND-10: bad sum and wrong echo, the checksum is reported. -/
theorem test_send_priority : seen (exec (.send [0x6A, 0x00] 1000) (listening [0xA0, 0x05, 0x6B, 0x00, 0x01, 0x02, 0xEF])) =
    some ([⟨.failed .checksumMismatch, .none⟩], .failed .checksumMismatch, [[0xA0, 0x03, 0x6A, 0x00, 0xF3]]) := by decide
/-- 41 R136: after a failure, the kind, not cleared. -/
theorem test_getlasterror : seen (exec .getlasterror { State.reset with lasterr := .failed .noReply }) =
    some ([⟨.ok, .lastError (.failed .noReply)⟩], .failed .noReply, []) := by decide
/-- 70 R210. -/
theorem test_create_clears : seen (exec .create { State.reset with lasterr := .failed .noReply }) =
    some ([], .ok, []) := by decide
/-- 70 R211. -/
theorem test_create_busy : refusal (exec .create (waiting .send)) = some .busy := by decide
/-- V-CMD-VER-2. -/
theorem test_getversion : seen (exec .getversion (listening [0xA0, 0x06, 0x6A, 0x00, 0x12, 0x0A, 0x99, 0x3B])) =
    some ([⟨.ok, .version 0x12 0x0A⟩], .ok, [[0xA0, 0x03, 0x6A, 0x00, 0xF3]]) := by decide
/-- V-CMD-VER-3. -/
theorem test_getversion_short : refusal (exec .getversion (listening [0xA0, 0x04, 0x6A, 0x00, 0x01, 0xF1])) =
    some .versionReplyTooShort := by decide
/-- V-CMD-STP-1. -/
theorem test_stopcont : seen (exec .stopcont (listening [0xA0, 0x04, 0xA8, 0x00, 0x00, 0xB4])) =
    some ([⟨.ok, .unit⟩], .ok, [[0xA0, 0x03, 0xA8, 0x00, 0xB5]]) := by decide
/-- V-CMD-STP-3: status byte absent. -/
theorem test_stopcont_absent : seen (exec .stopcont (listening [0xA0, 0x03, 0xA8, 0x00, 0xB5])) =
    some ([⟨.failed .commandRejected, .none⟩], .failed .commandRejected, [[0xA0, 0x03, 0xA8, 0x00, 0xB5]]) := by decide
/-- V-CMD-STA-2. -/
theorem test_startcont : seen (exec .startcont (listening [0xA0, 0x04, 0x65, 0x00, 0x01, 0xF6])) =
    some ([⟨.failed .commandRejected, .none⟩], .failed .commandRejected, [[0xA0, 0x03, 0x65, 0x00, 0xF8]]) := by decide
/-- V-CMD-BUZ-2: the reply is not compared with the mode. -/
theorem test_setbuzzer : seen (exec (.setbuzzer 1) (listening [0xA0, 0x04, 0xB0, 0x00, 0x00, 0xAC])) =
    some ([⟨.ok, .unit⟩], .ok, [[0xA0, 0x04, 0xB0, 0x00, 0x01, 0xAB]]) := by decide
/-- V-CMD-BUZ-4. -/
theorem test_setbuzzer_unsolicited : seen (exec (.setbuzzer 0x54) (listening [0xA0, 0x04, 0xA8, 0x00, 0x00, 0xB4])) =
    some ([⟨.failed .unsolicited, .none⟩], .failed .unsolicited, [[0xA0, 0x04, 0xB0, 0x00, 0x54, 0x58]]) := by decide
/-- V-CMD-IDN-5. -/
theorem test_identify_odd : seen (exec .identify (listening [0xA0, 0x07, 0x82, 0x00, 0x01, 0x12, 0x34, 0x56, 0x3A])) =
    some ([⟨.ok, .words [0x1234]⟩], .ok, [[0xA0, 0x03, 0x82, 0x00, 0xDB]]) := by decide
/-- V-CMD-IDN-3: flag 2 is no tag, the words are not delivered. -/
theorem test_identify_flag : seen (exec .identify (listening [0xA0, 0x06, 0x82, 0x00, 0x02, 0x12, 0x34, 0x90])) =
    some ([⟨.failed .tagNotFound, .words []⟩], .failed .tagNotFound, [[0xA0, 0x03, 0x82, 0x00, 0xDB]]) := by decide
/-- V-CMD-RD-4: words from offset 3, their number not checked. -/
theorem test_readwords : seen (exec (.readwords 3 0 8)
      (listening [0xA0, 0x0A, 0x80, 0x00, 0x03, 0x00, 0x02, 0xAA, 0xBB, 0xCC, 0xDD, 0xC3])) =
    some ([⟨.ok, .words [0xAABB, 0xCCDD]⟩], .ok, [[0xA0, 0x06, 0x80, 0x00, 0x03, 0x00, 0x08, 0xCF]]) := by decide
/-- V-CMD-RD-2. -/
theorem test_readwords_bank : seen (exec (.readwords 3 0 8)
      (listening [0xA0, 0x0A, 0x80, 0x00, 0x01, 0x00, 0x02, 0xAA, 0xBB, 0xCC, 0xDD, 0xC5])) =
    some ([⟨.failed .tagNotFound, .words []⟩], .failed .tagNotFound,
      [[0xA0, 0x06, 0x80, 0x00, 0x03, 0x00, 0x08, 0xCF]]) := by decide
/-- V-CMD-WR-1. -/
theorem test_writewords : seen (exec (.writewords 3 0 [0x1234, 0x5678]) (listening [0xA0, 0x04, 0x81, 0x00, 0x00, 0xDB])) =
    some ([⟨.ok, .unit⟩], .ok,
      [[0xA0, 0x0B, 0x81, 0x00, 0x01, 0x03, 0x00, 0x02, 0x12, 0x34, 0x56, 0x78, 0xBA]]) := by decide
/-- V-CMD-WR-3: a failure without data. -/
theorem test_writewords_fails : seen (exec (.writewords 1 2 [0xFFFF]) (listening [0xA0, 0x04, 0x81, 0x00, 0x10, 0xCB])) =
    some ([⟨.failed .tagNotFound, .none⟩], .failed .tagNotFound,
      [[0xA0, 0x09, 0x81, 0x00, 0x01, 0x01, 0x02, 0x01, 0xFF, 0xFF, 0xD3]]) := by decide
/-- V-CMD-RAW-1. -/
theorem test_raw : seen (exec (.raw [0xFC, 0x00]) (listening [])) =
    some ([⟨.failed .noReply, .none⟩], .failed .noReply, [[0xA0, 0x03, 0xFC, 0x00, 0x61]]) := by decide
/-- 42 R158: byte 0 must be an undocumented opcode. -/
theorem test_raw_opcode : refusal (exec (.raw [0x6A, 0x00]) (listening [])) = some .notRawOpcode := by decide
/-- 42 R158, the frame `A0 03 A6 00 B7`; the reply is handed back. -/
theorem test_rawA6 : seen (exec (.rawA6 [0x00]) (listening [0xA0, 0x04, 0xA6, 0x00, 0x07, 0xAF])) =
    some ([⟨.ok, .bytes [0x07]⟩], .ok, [[0xA0, 0x03, 0xA6, 0x00, 0xB7]]) := by decide
/-- 42 R158, the frame `A0 03 FC 00 61`. -/
theorem test_rawFC : seen (exec (.rawFC [0x00]) (listening [])) =
    some ([⟨.failed .noReply, .none⟩], .failed .noReply, [[0xA0, 0x03, 0xFC, 0x00, 0x61]]) := by decide
/-- 42 R158, the frame `A0 03 FF 00 5E`. -/
theorem test_rawFF : seen (exec (.rawFF [0x00]) (listening [])) =
    some ([⟨.failed .noReply, .none⟩], .failed .noReply, [[0xA0, 0x03, 0xFF, 0x00, 0x5E]]) := by decide
/-- 30 R93. -/
theorem test_reserved : refusal (exec .reserved State.reset) = some .reservedOpsel := by decide

/-- V-DEC-20 inside SEND: a message of 258 bytes whose first 257 would decode sets OVF and is a LengthMismatch. -/
theorem test_overflow : decodeReceived ((0xA0 :: 0xFF :: List.replicate 254 0 ++ [0x61, 0x00]).take 257) true =
    .err .lengthMismatch := by decide

/-- 70 R214: a step of a waiting block completes its SEND and leaves the host's request where it is. -/
theorem test_busy_keeps_request :
    (match step { waiting .send with answers := [[]], inputs := [.request .reset] } with
      | .next t => some (t.inputs, t.lasterr)
      | .fault _ => none
      | .refused _ => none) = some ([.request .reset], .failed .noReply) := by decide

/-! ## Witnesses: a concrete input for the hypotheses of each statement, one for each clause -/

theorem witness_EncodedOperationsDecodeBack :
    (Instr.writewords 255 255 (List.replicate 124 65535)).wellFormed = true ∧ (Instr.rawFF (List.replicate 253 9)).wellFormed = true := by
  decide +kernel

theorem witness_DecodedCommandsReencode : decodeCommand [0x80, 0x00, 0xFF, 0xFF, 0xFF] = .ok (.readwords 255 255 255) := by
  decide

theorem witness_CatalogueRowsSeparateCommands :
    catalogueRows[5]? = some (0xA600, 0xFF00) ∧ (0xA6FF : TagWord) &&& 0xFF00 = 0xA600 ∧
    decodeCommand [0xFF, 0xFF] = .ok (.rawFF [0xFF]) ∧
    (0x81 + 2 : Byte) ∉ ([0x65, 0x6A, 0x80, 0x81, 0x82, 0xA6, 0xA8, 0xB0, 0xFC, 0xFF] : List Byte) := by decide

theorem witness_OpselCodesSelectOperations : ∀ k : BitVec 4, ∃ r : HostReq, r.opsel = k := fun k => ⟨{ opsel := k }, rfl⟩

theorem witness_FixedCommandFormats : (255 < 256) ∧
    ((Instr.identify, (0x82 : Byte)) ∈ [(Instr.getversion, (0x6A : Byte)), (.stopcont, 0xA8), (.startcont, 0x65), (.identify, 0x82)]) := by
  decide

theorem witness_WritewordsCommandLayout :
    (∀ w ∈ List.replicate 124 65535, w < 65536) ∧ (List.replicate 124 65535).length ≤ 124 ∧
    (List.replicate 124 65535)[123]? = some 65535 ∧
    (∀ w ∈ List.replicate 125 0, w < 65536) ∧ 124 < (List.replicate 125 0).length := by decide +kernel

theorem witness_AccumulatorIsByteSum : ([0xA0, 0x03, 0x6A, 0x00] : List Byte).Perm [0x03, 0xA0, 0x00, 0x6A] := by decide

theorem witness_EncodedFrameProperties : (List.replicate 254 (0xFF : Byte)).length ≤ 254 := by decide +kernel

/-- Each clause of the procedure: 1 byte, wrong length, bad sum, good, LEN = 0, 258 bytes. -/
theorem witness_DecodeProcedure :
    ([0xA0] : List Byte).length < 2 ∧
    ([0xA0, 0x01] : List Byte).length ≠ (0x01 : Byte).toNat + 2 ∧
    (([0xA0, 0x00] : List Byte).length = (0x00 : Byte).toNat + 2 ∧ sum8 [0xA0, 0x00] ≠ 0) ∧
    (([0x00, 0x00] : List Byte).length = (0x00 : Byte).toNat + 2 ∧ sum8 [0x00, 0x00] = 0) ∧
    257 < (0xA0 :: 0xFF :: List.replicate 256 (0 : Byte)).length := by decide +kernel

theorem witness_CodecRoundTripAndErrorDetection :
    decodeFrame [0xA0, 0x01, 0x5F] = .ok [] ∧ ([0xA0, 0x01, 0x5F] : List Byte)[1]? = some 0x01 ∧
    ([0xA0, 0x01, 0x5F] : List Byte).length = (0x01 : Byte).toNat + 2 ∧ (0x02 : Byte) ≠ 0x01 ∧
    ([0xA0, 0x02, 0x5F] : List Byte).length ≠ (0x02 : Byte).toNat + 2 ∧ sum8 [0xA0, 0x01, 0x5E] ≠ 0 := by decide

theorem witness_PrefixIsNotTested : ([] : List Byte).length ≤ 254 ∧ (List.replicate 254 (0 : Byte)).length ≤ 254 := by decide +kernel

theorem witness_PackerEmitsEncodedFrame : (List.replicate 254 (0 : Byte)).length ≤ 254 := by decide +kernel

theorem witness_WordsPairBigEndian : ([0x12, 0x34, 0x56] : List Byte)[2 * 0]? = some 0x12 ∧
    ([0x12, 0x34, 0x56] : List Byte)[2 * 0 + 1]? = some 0x34 := by decide

theorem witness_IndexSpacesAreViews : decodeFrame [0xA0, 0x05, 0x6A, 0x00, 0x01, 0x02, 0xEE] = .ok [0x6A, 0x00, 0x01, 0x02] := by
  decide

theorem witness_codec_operations :
    State.reset.busy = false ∧ (List.replicate 254 (0 : Byte)).length ≤ 254 ∧ 254 < (List.replicate 255 (0 : Byte)).length ∧
    (∀ w ∈ [0, 65535], w < 65536) ∧ (∃ w ∈ [0, 65536], 65536 ≤ w) := by decide +kernel

theorem witness_GetLastErrorReportsAndKeeps : State.reset.busy = false ∧ (waiting .send).busy = true := by decide

theorem witness_SendCompletes : (listening []).Answers [] ∧ ([0x6A, 0x00] : List Byte).length ≤ 254 ∧
    (2 ^ Config.timeoutBits - 1 < 2 ^ Config.timeoutBits) :=
  ⟨listening_answers [], by decide, Nat.sub_lt (Nat.two_pow_pos _) (by decide)⟩

theorem witness_SendStripsEchoBytes : (listening [0xA0, 0x03, 0x6A, 0x00, 0xF3]).Answers [0xA0, 0x03, 0x6A, 0x00, 0xF3] ∧
    decodeFrame [0xA0, 0x03, 0x6A, 0x00, 0xF3] = .ok (0x6A :: 0x00 :: []) ∧
    ([0xA0, 0x03, 0x6A, 0x00, 0xF3] : List Byte) = [0xA0, 0x03, 0x6A, 0x00, chk8 [0xA0, 0x03, 0x6A, 0x00]] :=
  ⟨listening_answers _, by decide, by decide⟩

theorem witness_SuccessfulSendGuarantees : ∃ t, exec (.send [0x6A, 0x00] 1000) (listening [0xA0, 0x03, 0x6A, 0x00, 0xF3]) = .next t ∧
    t.status = .ok := ⟨_, rfl, by decide⟩

theorem witness_SendWaitsForTheTransport : exchangeOf .getversion = some (.getversion, [0x6A, 0x00], 1000) ∧
    Instr.getversion.wellFormed = true ∧ State.reset.busy = false ∧ State.reset.ready = true ∧ State.reset.answers = [] := by decide

theorem witness_TwoStepFormEqualsOneStepForm : (exchangeOf .identify).isSome ∧ State.reset.answers = [] ∧
    ∃ w, exec .identify State.reset = .next w := ⟨by decide, by decide, _, rfl⟩

theorem witness_SendInProgressEnds : (waiting .getversion).Inv ∧ (waiting .getversion).busy = true :=
  ⟨waiting_inv _, rfl⟩

theorem witness_CreateResetsTheChannel : State.reset.busy = false ∧ (waiting .send).busy = true := by decide

theorem witness_StatusCommandsComplete : (listening [0xA0, 0x04, 0xA8, 0x00, 0x00, 0xB4]).Answers [0xA0, 0x04, 0xA8, 0x00, 0x00, 0xB4] ∧
    255 < 256 := ⟨listening_answers _, by decide⟩

theorem witness_GetversionCompletes :
    sendResult [0x6A, 0x00] [] = .err .noReply ∧
    sendResult [0x6A, 0x00] [0xA0, 0x05, 0x6A, 0x00, 0x01, 0x02, 0xEE] = .ok (0x01 :: 0x02 :: []) ∧
    sendResult [0x6A, 0x00] [0xA0, 0x04, 0x6A, 0x00, 0x01, 0xF1] = .ok [0x01] := by decide

theorem witness_IdentifyCompletes : (listening [0xA0, 0x04, 0x82, 0x00, 0x01, 0xD9]).Answers [0xA0, 0x04, 0x82, 0x00, 0x01, 0xD9] :=
  listening_answers _

theorem witness_ReadwordsCompletes : (listening [0xA0, 0x04, 0x80, 0x00, 0x00, 0xDC]).Answers [0xA0, 0x04, 0x80, 0x00, 0x00, 0xDC] ∧
    (0 < 256 ∧ 255 < 256) := ⟨listening_answers _, by decide⟩

theorem witness_WritewordsCompletes : (listening [0xA0, 0x04, 0x81, 0x00, 0x00, 0xDB]).Answers [0xA0, 0x04, 0x81, 0x00, 0x00, 0xDB] ∧
    (List.replicate 124 0xABCD).length ≤ 124 ∧ (∀ w ∈ List.replicate 124 0xABCD, w < 65536) :=
  ⟨listening_answers _, by decide +kernel, by decide +kernel⟩

theorem witness_RawCommandsComplete : (listening []).Answers [] ∧ 1 ≤ ([0x00] : List Byte).length ∧
    ([0x00] : List Byte).length ≤ 253 ∧ ((0xFC : Byte) = 0xFC ∨ (0xFC : Byte) = 0xFF ∨ (0xFC : Byte) = 0xA6) ∧
    ¬((0x6A : Byte) = 0xFC ∨ (0x6A : Byte) = 0xFF ∨ (0x6A : Byte) = 0xA6) :=
  ⟨listening_answers _, by decide, by decide, by decide, by decide⟩

theorem witness_ReaderCommandsShortCircuit : exchangeOf .identify = some (.identify, [0x82, 0x00], 1000) ∧
    Instr.identify.wellFormed = true ∧ (listening [0x42]).Answers [0x42] ∧ sendResult [0x82, 0x00] [0x42] = .err .lengthMismatch :=
  ⟨by decide, by decide, listening_answers _, by decide⟩

theorem witness_ResultDependsOnlyOnTheAnswer : (exchangeOf .stopcont).isSome ∧
    (listening []).Answers [] ∧ ({ listening [] with lasterr := .failed .unsolicited }).Answers [] ∧
    (∃ t, exec .stopcont (listening []) = .next t) ∧
    (∃ r, exec .getversion (listening [0xA0, 0x04, 0x6A, 0x00, 0x01, 0xF1]) = .refused r) :=
  ⟨by decide, listening_answers _, ⟨rfl, rfl, rfl⟩, ⟨_, rfl⟩, ⟨_, rfl⟩⟩

theorem witness_NonzeroReservedByteIsUnsolicited : isCatalogued .getversion = true ∧ encodeCommand .getversion = some [0x6A, 0x00] ∧
    (listening [0xA0, 0x05, 0x6A, 0x01, 0x01, 0x02, 0xED]).Answers [0xA0, 0x05, 0x6A, 0x01, 0x01, 0x02, 0xED] ∧
    decodeFrame [0xA0, 0x05, 0x6A, 0x01, 0x01, 0x02, 0xED] = .ok (0x6A :: 0x01 :: [0x01, 0x02]) ∧ (0x01 : Byte) ≠ 0 :=
  ⟨by decide, by decide, listening_answers _, by decide, by decide⟩

theorem witness_EmptyAnswerIsNoReply : exchangeOf (.send [0x6A, 0x00] 0) = some (.send, [0x6A, 0x00], 0) ∧
    (Instr.send [0x6A, 0x00] 0).wellFormed = true ∧ (listening []).Answers [] ∧
    exchangeOf (.decode []) = none ∧ ∃ t, exec (.decode []) State.reset = .next t :=
  ⟨by decide, by decide, listening_answers _, by decide, _, rfl⟩

/-- Each clause of the order: empty, one stray byte, bad sum, one-byte payload, echo right (95 V-SND). -/
theorem witness_FailurePriority : exchangeOf (.send [0x6A, 0x00] 1000) = some (.send, [0x6A, 0x00], 1000) ∧
    (Instr.send [0x6A, 0x00] 1000).wellFormed = true ∧ (listening [0x42]).Answers [0x42] ∧
    (([0x42] : List Byte) ≠ [] ∧ ∀ l, ([0x42] : List Byte)[1]? = some l → ([0x42] : List Byte).length ≠ l.toNat + 2) ∧
    (([0xA0, 0x00] : List Byte).length = (0x00 : Byte).toNat + 2 ∧ sum8 [0xA0, 0x00] ≠ 0) ∧
    decodeFrame [0xA0, 0x02, 0x6A, 0xF4] = .ok [0x6A] ∧
    decodeFrame [0xA0, 0x03, 0x6A, 0x00, 0xF3] = .ok [0x6A, 0x00] ∧
    (∃ t, exec (.send [0x6A, 0x00] 1000) (listening [0xA0, 0x03, 0x6A, 0x00, 0xF3]) = .next t) ∧
    Instr.reserved.wellFormed = false ∧ (waiting .send).busy = true :=
  ⟨by decide, by decide, listening_answers _, ⟨by decide, by simp⟩, by decide, by decide, by decide, ⟨_, rfl⟩, by decide, by decide⟩

theorem witness_ErrorEntryRecordsTheKind :
    (∃ t, exec .identify (listening [0xA0, 0x04, 0x82, 0x00, 0x00, 0xDA]) = .next t ∧ t.busy = false ∧
      t.status = .failed .tagNotFound ∧ t.delivered = [⟨.failed .tagNotFound, .words []⟩]) ∧
    (∃ t, step { waiting .send with answers := [[]] } = .next t ∧ t.busy = false ∧ t.status = .failed .noReply ∧
      t.delivered = [⟨.failed .noReply, .none⟩]) ∧
    (∃ t, step { waiting .send with phase := .enc, answers := [[0x42]] } = .next t ∧ t.busy = false ∧
      t.status = .failed .lengthMismatch) ∧
    (∃ t, exec (.decode []) State.reset = .next t) :=
  ⟨⟨_, rfl, by decide⟩, ⟨_, rfl, by decide⟩, ⟨_, rfl, by decide⟩, ⟨_, rfl⟩⟩

theorem witness_LastErrorKeptUntilNextFailure :
    (∃ t, step { waiting .send with lasterr := .failed .tagNotFound, answers := [[0xA0, 0x03, 0x6A, 0x00, 0xF3]] } = .next t ∧
      t.delivered = [⟨.ok, .bytes []⟩]) ∧
    fetch { State.reset with inputs := [.request (.host { opsel := 4 })] } ≠ .instr .create :=
  ⟨⟨_, rfl, by decide⟩, by decide⟩

theorem witness_StepRunsTheDecodedOperation :
    ({ State.reset with inputs := [.request (.command [0x82, 0x00])] } : State).busy = false ∧
    decodeRequest (.command [0x82, 0x00]) = .ok .identify := by decide

theorem witness_StepWithoutAnOperation : State.reset.busy = false ∧ State.reset.inputs = [] ∧
    ({ State.reset with inputs := [.readyLevel false] } : State).inputs = .readyLevel false :: [] ∧
    decodeRequest (.command []) = .reject .emptyCommand := by decide

theorem witness_StepKeepsTheInvariant : (waiting .send).Inv ∧ ∃ t, step { waiting .send with answers := [[]] } = .next t :=
  ⟨waiting_inv _, _, rfl⟩

theorem witness_BusyIsPhaseNotIdle : ((waiting .send).busy = true ↔ (waiting .send).phase ≠ .idle) ∧
    (∃ t, exec .stopcont State.reset = .next t) ∧ (exchangeOf .stopcont).isSome ∧
    (∃ t, exec .getlasterror State.reset = .next t) ∧ exchangeOf .getlasterror = none :=
  ⟨by decide, ⟨_, rfl⟩, by decide, ⟨_, rfl⟩, by decide⟩

theorem witness_NotReadyRefusesSends : (exchangeOf .stopcont).isSome ∧ Instr.stopcont.wellFormed = true ∧
    ({ State.reset with ready := false } : State).busy = false ∧ exchangeOf (.words []) = none ∧
    ∃ t, exec (.words []) { State.reset with ready := false } = .next t :=
  ⟨by decide, by decide, by decide, by decide, _, rfl⟩

theorem witness_OneValidFramePerExchange : (waiting .send).Inv ∧
    ∃ t, step (State.reset.withFetchWord 16 0x8200) = .next t ∧ t.sent ≠ [] :=
  ⟨waiting_inv _, _, rfl, by decide⟩

theorem witness_ReadyIsDrivenByTheTransport :
    ∃ t, step { State.reset with inputs := [.readyLevel false] } = .next t ∧ t.ready ≠ State.reset.ready :=
  ⟨_, rfl, by decide⟩

end Sys2Proof.Tests
end

section
/-! SUPPORT. The statements about the state and its ports (10_state). What one step can do is said once, in
`step_next`, `exec_next` and `resume_next`: the path a SEND in progress takes through its phases, how it ends, and what
the other operations do. Each statement is then a short case analysis over these. -/

namespace Sys2Proof.Machine

/-! ## A SEND in progress -/

/-- The states a SEND in progress at `s` passes through within one step (41 R131): each move of the sequencer, from the
phase it belongs to. -/
inductive SendPath (s : State) : State → Prop where
  | here : SendPath s s
  | handOver {u : State} (hu : SendPath s u) (hp : u.phase = .enc) : SendPath s u.handOver
  | receive {u : State} (hu : SendPath s u) (hp : u.phase = .xchg) :
      SendPath s (u.drawAnswer.receive u.answer)
  | toDec {u : State} (hu : SendPath s u) (hp : u.phase = .xchg) : SendPath s u.toDec
  | toCorr {u : State} {p : List Byte} (hu : SendPath s u) (hp : u.phase = .dec)
      (hd : decodeReceived u.rxf u.ovf = .ok p) : SendPath s (u.toCorr p)

/-- How one step takes a SEND in progress on: it hands its frame over and waits, or it ends. -/
inductive SendStep (s t : State) : Prop where
  | waits (hp : s.phase = .enc) (ha : s.answers = []) (ht : t = s.handOver)
  | ends (u : State) (hu : SendPath s u) (he : Ended u t)

/-- A failure other than TagNotFound ends a SEND without data. -/
theorem Ended.of_errorEntry_none {s : State} {f : Failure} (hf : f ≠ .tagNotFound) :
    Ended s (s.errorEntry f .none) :=
  .failure f (by rw [failureData_of_ne hf])

theorem ne_tagNotFound_of_decodeReceived_err {r : List Byte} {o : Bool} {f : Failure}
    (h : decodeReceived r o = .err f) : f ≠ .tagNotFound := by
  obtain rfl | rfl := decodeReceived_err h <;> decide

/-- From DEC the operation ends in DEC or in CORR. -/
theorem runDec_ends {s t : State} (hp : s.phase = .dec) (h : runDec s = .next t) :
    ∃ u, SendPath s u ∧ Ended u t := by
  obtain ⟨f, hf, rfl⟩ | ⟨p, hd, he⟩ := runDec_next h
  · exact ⟨s, .here, .of_errorEntry_none (ne_tagNotFound_of_decodeReceived_err hf)⟩
  · exact ⟨_, .toCorr .here hp hd, he⟩

/-- From XCHG the operation ends: with no answer, in DEC, or in CORR. -/
theorem runXchg_ends {s u t : State} (hu : SendPath s u) (hp : u.phase = .xchg) (h : runXchg u = .next t) :
    ∃ v, SendPath s v ∧ Ended v t := by
  have hr : SendPath s (u.drawAnswer.receive u.answer) := hu.receive hp
  have hpr : (u.drawAnswer.receive u.answer).phase = .xchg := by simpa using hp
  obtain ⟨-, rfl⟩ | ⟨f, hf, rfl⟩ | ⟨p, hd, he⟩ := runReceived_next h
  · exact ⟨_, hr, .of_errorEntry_none (by decide)⟩
  · exact ⟨_, hr.toDec hpr, .of_errorEntry_none (ne_tagNotFound_of_decodeReceived_err hf)⟩
  · exact ⟨_, (hr.toDec hpr).toCorr rfl hd, he⟩

theorem runEnc_next {s t : State} (hp : s.phase = .enc) (h : runEnc s = .next t) : SendStep s t := by
  obtain ⟨ha, he⟩ | ⟨-, he⟩ := runEnc_cases s
  · exact .waits hp ha (by simpa using h.symm.trans he)
  · obtain ⟨u, hu, hend⟩ := runXchg_ends (.handOver .here hp) rfl (he.symm.trans h)
    exact .ends u hu hend

/-- A step of a SEND in progress, from whatever phase. -/
theorem resume_next {s t : State} (h : resume s = .next t) : SendStep s t := by
  unfold resume at h
  split at h <;> rename_i hp
  · cases h
  · exact runEnc_next hp h
  · obtain ⟨u, hu, he⟩ := runXchg_ends .here hp h
    exact .ends u hu he
  · obtain ⟨u, hu, he⟩ := runDec_ends hp h
    exact .ends u hu he
  · exact .ends s .here (runCorr_next h)

/-! ## What a SEND in progress keeps -/

/-- The request a SEND serves and the environment's side of the block are as before. -/
structure SameRequest (s t : State) : Prop where
  inputs : t.inputs = s.inputs
  ready : t.ready = s.ready
  cmd : t.cmd = s.cmd
  timeout : t.timeout = s.timeout
  op : t.op = s.op

theorem SameRequest.trans {s u t : State} (h : SameRequest s u) (h' : SameRequest u t) : SameRequest s t :=
  ⟨h'.inputs.trans h.inputs, h'.ready.trans h.ready, h'.cmd.trans h.cmd, h'.timeout.trans h.timeout,
    h'.op.trans h.op⟩

theorem SendPath.sameRequest {s u : State} (h : SendPath s u) : SameRequest s u := by
  induction h with
  | here => exact ⟨rfl, rfl, rfl, rfl, rfl⟩
  | handOver _ _ ih => exact ih.trans ⟨rfl, rfl, rfl, rfl, rfl⟩
  | receive _ _ ih => exact ih.trans (by constructor <;> simp)
  | toDec _ _ ih => exact ih.trans ⟨rfl, rfl, rfl, rfl, rfl⟩
  | toCorr _ _ _ ih => exact ih.trans ⟨rfl, rfl, rfl, rfl, rfl⟩

theorem Ended.sameRequest {s t : State} (h : Ended s t) : SameRequest s t := by
  obtain ⟨_, rfl⟩ | ⟨_, rfl⟩ := h <;> exact ⟨rfl, rfl, rfl, rfl, rfl⟩

theorem SendStep.sameRequest {s t : State} (h : SendStep s t) : SameRequest s t := by
  obtain ⟨-, -, rfl⟩ | ⟨_, hu, he⟩ := h
  · exact ⟨rfl, rfl, rfl, rfl, rfl⟩
  · exact hu.sameRequest.trans he.sameRequest

/-- Before it ends, a SEND writes neither LASTERR nor H_RSP, and BUSY stays. -/
theorem SendPath.lasterr_delivered_busy {s u : State} (h : SendPath s u) :
    u.lasterr = s.lasterr ∧ u.delivered = s.delivered ∧ u.busy = s.busy := by
  induction h with
  | here => exact ⟨rfl, rfl, rfl⟩
  | receive _ _ ih => simpa using ih
  | handOver _ _ ih | toDec _ _ ih | toCorr _ _ _ ih => exact ih

/-- The SEND of `s` has completed in `t` with the result `r` (70 R222): an idle block, and LASTERR written by a failure
only (10 R21). -/
structure Completed (s t : State) (r : Delivery) : Prop where
  busy : t.busy = false
  phase : t.phase = .idle
  status : t.status = r.status
  lasterr : t.lasterr = lastErrorAfter s.lasterr r.status
  delivered : t.delivered = s.delivered ++ [r]

theorem Ended.completed {s t : State} (h : Ended s t) : ∃ r, Completed s t r := by
  obtain ⟨d, rfl⟩ | ⟨f, rfl⟩ := h
  · exact ⟨⟨.ok, d⟩, rfl, rfl, rfl, rfl, rfl⟩
  · exact ⟨⟨.failed f, _⟩, rfl, rfl, rfl, rfl, rfl⟩

/-- A step of a SEND in progress waits for the transport or delivers the one result. -/
theorem SendStep.waits_or_completed {s t : State} (h : SendStep s t) :
    t = s.handOver ∨ ∃ r, Completed s t r := by
  obtain ⟨-, -, ht⟩ | ⟨u, hu, he⟩ := h
  · exact .inl ht
  · obtain ⟨hl, hd, -⟩ := hu.lasterr_delivered_busy
    obtain ⟨r, hc⟩ := he.completed
    exact .inr ⟨r, hc.busy, hc.phase, hc.status, hl ▸ hc.lasterr, hd ▸ hc.delivered⟩

/-! ## What an operation and a step can do -/

/-- Using the codec's working registers and delivering a result touches nothing else. -/
theorem Works.deliveredOnly {s u : State} (h : Works s u) (k : Kind) (d : Data) :
    DeliveredOnly s (u.deliver k d) ⟨k, d⟩ := by
  cases h <;> constructor <;> rfl

/-- What the operation `i`, accepted on `s`, has done: one move of its SEND, one delivery, or CREATE's reset. -/
inductive Executed (i : Instr) (s t : State) : Prop where
  | sends (o : Op) (c : List Byte) (ms : Nat) (hx : exchangeOf i = some (o, c, ms)) (hr : s.ready = true)
      (h2 : 2 ≤ c.length) (hm : c.length ≤ Config.payloadMax) (ht : ms < 2 ^ Config.timeoutBits)
      (h : SendStep (s.issue o c ms) t)
  | delivers (r : Delivery) (hx : exchangeOf i = none) (h : DeliveredOnly s t r)
  | creates (hi : i = .create) (h : t = s.createReset)

theorem exec_next {i : Instr} {s t : State} (h : exec i s = .next t) : s.busy = false ∧ Executed i s t := by
  cases hx : exchangeOf i with
  | some x =>
    obtain ⟨o, c, ms⟩ := x
    obtain ⟨-, r, hr⟩ | he := exec_exchange hx
    · rw [hr] at h; cases h
    · obtain ⟨hb, hr, h2, hm, ht, hrun⟩ := exchange_next ((he s).symm.trans h)
      exact ⟨hb, .sends o c ms hx hr h2 hm ht (runEnc_next rfl hrun)⟩
  | none =>
    obtain ⟨hb, ⟨hi, rfl⟩ | ⟨u, k, d, hu, rfl, -⟩⟩ := exec_immediate hx h
    · exact ⟨hb, .creates hi rfl⟩
    · exact ⟨hb, .delivers _ hx (hu.deliveredOnly k d)⟩

/-- What a step has done: a SEND in progress went on, or an idle block waited, took a level of READY, or ran the
operation its next request decodes to. -/
inductive Stepped (s t : State) : Prop where
  | goesOn (hb : s.busy = true) (h : SendStep s t)
  | waits (hb : s.busy = false) (hf : fetch s = .nothing) (h : t = s)
  | level (b : Bool) (hb : s.busy = false) (hf : fetch s = .level b) (h : t = s.dropInput.setReady b)
  | runs (i : Instr) (hb : s.busy = false) (hf : fetch s = .instr i) (h : Executed i s.dropInput t)

theorem step_next {s t : State} (h : step s = .next t) : Stepped s t := by
  by_cases hb : s.busy = true
  · rw [step, if_pos hb] at h
    exact .goesOn hb (resume_next h)
  · rw [step, if_neg hb] at h
    rw [Bool.not_eq_true] at hb
    split at h
    · cases h; exact .waits hb ‹_› rfl
    · cases h; exact .level _ hb ‹_› rfl
    · exact .runs _ hb ‹_› (exec_next h).2
    · cases h

/-- An idle block finds a level of READY only as its next input. -/
theorem inputs_of_fetch_level {s : State} {b : Bool} (h : fetch s = .level b) :
    ∃ rest, s.inputs = .readyLevel b :: rest := by
  unfold fetch at h
  split at h
  · cases h
  · cases h; exact ⟨_, ‹_›⟩
  · split at h <;> cases h

/-! ## Operations without a SEND -/

/-- What `f` writes does not depend on READY, which it leaves alone. -/
def IgnoresReady (f : State → State) : Prop := ∀ s b, f (s.setReady b) = (f s).setReady b

/-- An operation without a SEND refuses its operands whatever the state, or is one update that ignores READY, run on an
idle block (70 R213). -/
theorem exec_withoutSend {i : Instr} (hx : exchangeOf i = none) :
    (∃ r, ∀ s, exec i s = .refused r) ∨
    ∃ f, IgnoresReady f ∧ ∀ s, exec i s = immediate s (f s) := by
  cases i <;> simp only [exchangeOf, reduceCtorEq] at hx
  case encode p =>
    by_cases hp : p.length ≤ Config.payloadMax
    · exact .inr ⟨fun s => (s.usePacker p).deliver .ok (.bytes (encodeFrame p)), fun _ _ => rfl,
        fun s => by rw [exec, execEncode, if_pos hp]⟩
    · exact .inl ⟨_, fun s => by rw [exec, execEncode, if_neg hp]⟩
  case bytes ws =>
    by_cases hw : ws.all fitsTagWord = true
    · exact .inr ⟨fun s => s.deliver .ok (.bytes (bytesOf (tagWords ws))), fun _ _ => rfl,
        fun s => by rw [exec, execBytes, if_pos hw]⟩
    · exact .inl ⟨_, fun s => by rw [exec, execBytes, if_neg hw]⟩
  case chk8 q =>
    exact .inr ⟨fun s => (s.useAccumulator q).deliver .ok (.byte (chk8 q)), fun _ _ => rfl, fun _ => rfl⟩
  case decode f =>
    exact .inr ⟨fun s => (s.useUnpacker f).deliver (decodeFrame f).status (decodeData (decodeFrame f)),
      fun _ _ => rfl, fun _ => rfl⟩
  case getlasterror =>
    exact .inr ⟨fun s => s.deliver .ok (.lastError s.lasterr), fun _ _ => rfl, fun _ => rfl⟩
  case words q => exact .inr ⟨fun s => s.deliver .ok (.words (words q)), fun _ _ => rfl, fun _ => rfl⟩
  case create => exact .inr ⟨State.createReset, fun _ _ => rfl, fun _ => rfl⟩
  case reserved => exact .inl ⟨_, fun _ => rfl⟩

/-- While BUSY = 1 every operation is refused (10 R28, 70 R214). -/
theorem exec_refused_of_busy {s : State} (i : Instr) (hb : s.busy = true) : ∃ r, exec i s = .refused r := by
  cases hx : exchangeOf i with
  | some x =>
    obtain ⟨-, r, hr⟩ | he := exec_exchange hx
    · exact ⟨r, hr s⟩
    · exact ⟨.busy, by rw [he, exchange, if_pos hb]⟩
  | none =>
    obtain ⟨r, hr⟩ | ⟨f, -, he⟩ := exec_withoutSend hx
    · exact ⟨r, hr s⟩
    · exact ⟨.busy, by rw [he, immediate, if_pos hb]⟩

/-! ## LASTERR -/

/-- LASTERR from `s` to `t` (10 R21): kept, or overwritten by a failure that is delivered with its own kind. -/
def LasterrRule (s t : State) : Prop :=
  t.lasterr = s.lasterr ∨ ∃ f d, t.lasterr = .failed f ∧ t.status = .failed f ∧ t.busy = false ∧
    t.delivered = s.delivered ++ [⟨.failed f, d⟩]

/-- Under the rule a delivered success keeps LASTERR: the other case delivers a failure. -/
theorem LasterrRule.kept_of_success {s t : State} (h : LasterrRule s t) {d : Data}
    (hd : t.delivered = s.delivered ++ [⟨.ok, d⟩]) : t.lasterr = s.lasterr := by
  obtain h | ⟨f, d', -, -, -, hd'⟩ := h
  · exact h
  · simp [hd'] at hd

/-- Under the rule LASTERR never goes back to NONE. -/
theorem LasterrRule.ne_ok {s t : State} (h : LasterrRule s t) (hs : s.lasterr ≠ .ok) : t.lasterr ≠ .ok := by
  obtain h | ⟨f, -, h, -⟩ := h
  · rwa [h]
  · simp [h]

theorem Completed.lasterrRule {s t : State} {r : Delivery} (h : Completed s t r) : LasterrRule s t := by
  obtain ⟨k, d⟩ := r
  cases k with
  | ok => exact .inl h.lasterr
  | failed f => exact .inr ⟨f, d, h.lasterr, h.status, h.busy, h.delivered⟩

theorem SendStep.lasterrRule {s t : State} (h : SendStep s t) : LasterrRule s t := by
  obtain rfl | ⟨r, hc⟩ := h.waits_or_completed
  · exact .inl rfl
  · exact hc.lasterrRule

/-- Every step but CREATE's keeps the rule. -/
theorem step_lasterrRule {s t : State} (h : step s = .next t) (hc : s.busy = true ∨ fetch s ≠ .instr .create) :
    LasterrRule s t := by
  cases step_next h with
  | goesOn hb hs => exact hs.lasterrRule
  | waits hb hf ht => exact .inl (by rw [ht])
  | level b hb hf ht => exact .inl (by simp [ht])
  | runs i hb hf he =>
    cases he with
    | sends o c ms hx hr h2 hm ht hs => exact hs.lasterrRule
    | delivers r hx hd => exact .inl hd.lasterr
    | creates hi => simp [hb, hf, hi] at hc

/-- Settles O46, from the rule for LASTERR over one step. -/
theorem lastErrorKeptUntilNextFailure : Obligations.LastErrorKeptUntilNextFailure := by
  intro s t h hc
  have hr := step_lasterrRule h hc
  exact ⟨hr, fun _ => hr.kept_of_success, hr.ne_ok⟩

/-! ## The invariant -/

theorem State.Inv.issue {s : State} (h : s.Inv) {o : Op} {c : List Byte} {ms : Nat} (h2 : 2 ≤ c.length)
    (hm : c.length ≤ Config.payloadMax) (ht : ms < 2 ^ Config.timeoutBits) : (s.issue o c ms).Inv where
  busy_iff := by simp
  cmd_le := hm
  cmd_ge _ := h2
  txf_le := h.txf_le
  txf_eq _ hne := absurd rfl hne
  rxf_le := h.rxf_le
  rpl_le := h.rpl_le
  timeout_lt := ht

/-- The frame of a command within its size fits TXF. -/
theorem State.Inv.handOver {s : State} (h : s.Inv) (hp : s.phase = .enc) : s.handOver.Inv where
  busy_iff := by simpa [hp] using h.busy_iff
  cmd_le := h.cmd_le
  cmd_ge := h.cmd_ge
  txf_le := by simpa [Config.frameMax] using h.cmd_le
  txf_eq _ _ := rfl
  rxf_le := h.rxf_le
  rpl_le := h.rpl_le
  timeout_lt := h.timeout_lt

/-- RXF keeps no more than its size of an answer. -/
theorem State.Inv.receive {s : State} (h : s.Inv) (m : List Byte) : (s.drawAnswer.receive m).Inv where
  busy_iff := by simpa using h.busy_iff
  cmd_le := by simpa using h.cmd_le
  cmd_ge := by simpa using h.cmd_ge
  txf_le := by simpa using h.txf_le
  txf_eq := by simpa using h.txf_eq
  rxf_le := by simp
  rpl_le := by simpa using h.rpl_le
  timeout_lt := by simpa using h.timeout_lt

theorem State.Inv.toDec {s : State} (h : s.Inv) (hp : s.phase = .xchg) : s.toDec.Inv where
  busy_iff := by simpa [hp] using h.busy_iff
  cmd_le := h.cmd_le
  cmd_ge := h.cmd_ge
  txf_le := h.txf_le
  txf_eq _ _ := h.txf_eq (by simp [hp]) (by simp [hp])
  rxf_le := h.rxf_le
  rpl_le := h.rpl_le
  timeout_lt := h.timeout_lt

/-- A decoded payload fits RPL. -/
theorem State.Inv.toCorr {s : State} (h : s.Inv) (hp : s.phase = .dec) {p : List Byte}
    (hl : p.length ≤ Config.payloadMax) : (s.toCorr p).Inv where
  busy_iff := by simpa [hp] using h.busy_iff
  cmd_le := h.cmd_le
  cmd_ge := h.cmd_ge
  txf_le := h.txf_le
  txf_eq _ _ := h.txf_eq (by simp [hp]) (by simp [hp])
  rxf_le := h.rxf_le
  rpl_le := hl
  timeout_lt := h.timeout_lt

theorem SendPath.inv {s u : State} (h : SendPath s u) (hs : s.Inv) : u.Inv := by
  induction h with
  | here => exact hs
  | handOver _ hp ih => exact ih.handOver hp
  | receive _ _ ih => exact ih.receive _
  | toDec _ hp ih => exact ih.toDec hp
  | toCorr _ hp hd ih => exact ih.toCorr hp (decodeReceived_ok_length hd)

/-- An idle block owes the invariant its buffer sizes only. -/
theorem State.Inv.toIdle {s : State} (h : s.Inv) : s.toIdle.Inv where
  busy_iff := by simp
  cmd_le := h.cmd_le
  cmd_ge hb := by simp at hb
  txf_le := h.txf_le
  txf_eq hp := absurd rfl hp
  rxf_le := h.rxf_le
  rpl_le := h.rpl_le
  timeout_lt := h.timeout_lt

/-- The invariant reads BUSY, PHASE, TIMEOUT and the four buffers, and nothing else. -/
theorem State.Inv.congr {s t : State} (h : s.Inv) (hb : t.busy = s.busy) (hp : t.phase = s.phase)
    (hc : t.cmd = s.cmd) (hx : t.txf = s.txf) (hr : t.rxf = s.rxf) (hl : t.rpl = s.rpl)
    (ht : t.timeout = s.timeout) : t.Inv := by
  constructor <;> simp only [hb, hp, hc, hx, hr, hl, ht]
  exacts [h.busy_iff, h.cmd_le, h.cmd_ge, h.txf_le, h.txf_eq, h.rxf_le, h.rpl_le, h.timeout_lt]

theorem Ended.inv {s t : State} (h : Ended s t) (hs : s.Inv) : t.Inv := by
  obtain ⟨_, rfl⟩ | ⟨_, rfl⟩ := h <;> exact hs.toIdle.congr rfl rfl rfl rfl rfl rfl rfl

theorem SendStep.inv {s t : State} (h : SendStep s t) (hs : s.Inv) : t.Inv := by
  obtain ⟨hp, -, rfl⟩ | ⟨_, hu, he⟩ := h
  · exact hs.handOver hp
  · exact he.inv (hu.inv hs)

theorem DeliveredOnly.inv {s t : State} {r : Delivery} (h : DeliveredOnly s t r) (hs : s.Inv) : t.Inv :=
  hs.congr h.busy h.phase h.cmd h.txf h.rxf h.rpl h.timeout

/-- CREATE's free values are within their sizes (log 6), whatever stood before. -/
theorem State.createReset_inv (s : State) : s.createReset.Inv where
  busy_iff := by simp
  cmd_le := by simp
  cmd_ge hb := by simp at hb
  txf_le := by simp
  txf_eq hp := absurd rfl hp
  rxf_le := by simp
  rpl_le := by simp
  timeout_lt := Nat.mod_lt _ (Nat.two_pow_pos _)

theorem Executed.inv {i : Instr} {s t : State} (h : Executed i s t) (hs : s.Inv) : t.Inv := by
  cases h with
  | sends o c ms hx hr h2 hm ht h => exact h.inv (hs.issue h2 hm ht)
  | delivers r hx h => exact h.inv hs
  | creates hi h => exact h ▸ s.createReset_inv

/-- Settles O51: the moves of a SEND, its end, a delivery and CREATE each keep the invariant. -/
theorem stepKeepsTheInvariant : Obligations.StepKeepsTheInvariant := by
  intro s t hs h
  have hdrop : s.dropInput.Inv := hs.congr rfl rfl rfl rfl rfl rfl rfl
  cases step_next h with
  | goesOn hb h => exact h.inv hs
  | waits hb hf h => exact h ▸ hs
  | level b hb hf h => exact h ▸ hdrop.congr rfl rfl rfl rfl rfl rfl rfl
  | runs i hb hf h => exact h.inv hdrop

/-- Settles O50. -/
theorem resetMeetsTheInvariant : Obligations.ResetMeetsTheInvariant where
  busy_iff := by decide
  cmd_le := by decide
  cmd_ge := by decide
  txf_le := by decide
  txf_eq := by decide
  rxf_le := by decide
  rpl_le := by decide
  timeout_lt := Nat.two_pow_pos _

/-! ## BUSY and PHASE -/

/-- BUSY agrees with PHASE (10 R28). -/
def State.Coherent (s : State) : Prop := s.busy = true ↔ s.phase ≠ .idle

theorem State.coherent_of_idle {s : State} (hb : s.busy = false) (hp : s.phase = .idle) : s.Coherent := by
  simp [State.Coherent, hb, hp]

/-- A SEND in progress stays in a phase of its own or leaves an idle block. -/
theorem SendStep.coherent {s t : State} (h : SendStep s t) (hb : s.busy = true) : t.Coherent := by
  obtain rfl | ⟨r, hc⟩ := h.waits_or_completed
  · simp [State.Coherent, hb]
  · exact State.coherent_of_idle hc.busy hc.phase

theorem Executed.coherent {i : Instr} {s t : State} (h : Executed i s t) (hs : s.Coherent) : t.Coherent := by
  cases h with
  | sends o c ms hx hr h2 hm ht h => exact h.coherent rfl
  | delivers r hx h => rwa [State.Coherent, h.busy, h.phase]
  | creates hi h => exact h ▸ State.coherent_of_idle rfl rfl

theorem step_coherent {s t : State} (hs : s.Coherent) (h : step s = .next t) : t.Coherent := by
  cases step_next h with
  | goesOn hb h => exact h.coherent hb
  | waits hb hf h => exact h ▸ hs
  | level b hb hf h => exact h ▸ hs
  | runs i hb hf h => exact h.coherent hs

/-- BUSY spans a SEND from its issue to its one delivery. -/
theorem exec_send_busy {i : Instr} {s t : State} (hx : (exchangeOf i).isSome) (h : Executed i s t) :
    (t.busy = true ∧ t.delivered = s.delivered) ∨ (t.busy = false ∧ ∃ d, t.delivered = s.delivered ++ [d]) := by
  cases h with
  | sends o c ms _ hr h2 hm ht h =>
    obtain rfl | ⟨r, hc⟩ := h.waits_or_completed
    · exact .inl ⟨rfl, rfl⟩
    · exact .inr ⟨hc.busy, r, hc.delivered⟩
  | delivers r hn => simp [hn] at hx
  | creates hi => simp [hi, exchangeOf] at hx

/-- BUSY never rises for an operation without a SEND. -/
theorem exec_withoutSend_busy {i : Instr} {s t : State} (hx : exchangeOf i = none) (hb : s.busy = false)
    (h : Executed i s t) : t.busy = false := by
  cases h with
  | sends o c ms hs => simp [hs] at hx
  | delivers r _ h => rw [h.busy, hb]
  | creates _ h => rw [h, State.createReset_busy]

/-- Settles O53, from the span of BUSY over one operation and its agreement with PHASE over one step. -/
theorem busyIsPhaseNotIdle : Obligations.BusyIsPhaseNotIdle := by
  refine ⟨rfl, fun s t => step_coherent, fun s t i h => ?_, fun s i => exec_refused_of_busy i⟩
  obtain ⟨hb, he⟩ := exec_next h
  exact ⟨fun hx => exec_send_busy hx he, fun hx => exec_withoutSend_busy hx hb he⟩

/-- Settles O54: a step of a busy block is a step of its SEND, which keeps its request. -/
theorem busyBlockTakesNoInput : Obligations.BusyBlockTakesNoInput := by
  intro s t hb h
  rw [step, if_pos hb] at h
  obtain ⟨hi, hr, hc, ht, ho⟩ := (resume_next h).sameRequest
  exact ⟨hi, hr, hc, ht, ho⟩

/-! ## Faults -/

theorem runCorr_ne_fault (s : State) (e : Fault) : runCorr s ≠ .fault e := by
  unfold runCorr
  split
  · obtain ⟨t, h⟩ | ⟨-, -, h⟩ := finish_total (stripEcho s.rpl) s <;> simp [h]
  · simp

theorem runDec_ne_fault (s : State) (e : Fault) : runDec s ≠ .fault e := by
  unfold runDec
  split
  · simp
  · exact runCorr_ne_fault _ e

theorem runXchg_ne_fault (s : State) (e : Fault) : runXchg s ≠ .fault e := by
  unfold runXchg runReceived
  split
  · simp
  · exact runDec_ne_fault _ e

theorem runEnc_ne_fault (s : State) (e : Fault) : runEnc s ≠ .fault e := by
  obtain ⟨-, h⟩ | ⟨-, h⟩ := runEnc_cases s <;> rw [h]
  · simp
  · exact runXchg_ne_fault _ e

/-- The sequencer's fault is that of a SEND in progress in phase IDLE (log 16). -/
theorem resume_ne_fault {s : State} (hp : s.phase ≠ .idle) (e : Fault) : resume s ≠ .fault e := by
  unfold resume
  split
  · contradiction
  · exact runEnc_ne_fault s e
  · exact runXchg_ne_fault s e
  · exact runDec_ne_fault s e
  · exact runCorr_ne_fault s e

theorem exchange_ne_fault (o : Op) (c : List Byte) (ms : Nat) (s : State) (e : Fault) :
    exchange o c ms s ≠ .fault e := by
  unfold exchange
  iterate 5 (split; · simp)
  exact runEnc_ne_fault _ e

theorem immediate_ne_fault (s t : State) (e : Fault) : immediate s t ≠ .fault e := by
  unfold immediate
  split <;> simp

/-- No operation faults, in any state. -/
theorem exec_ne_fault (i : Instr) (s : State) (e : Fault) : exec i s ≠ .fault e := by
  cases hx : exchangeOf i with
  | some x =>
    obtain ⟨-, r, hr⟩ | he := exec_exchange hx
    · simp [hr]
    · rw [he]; exact exchange_ne_fault _ _ _ s e
  | none =>
    obtain ⟨r, hr⟩ | ⟨f, -, he⟩ := exec_withoutSend hx
    · simp [hr]
    · rw [he]; exact immediate_ne_fault s _ e

/-- Settles O52: an idle block cannot fault, and the invariant keeps a busy one out of phase IDLE. -/
theorem coherentBlockNeverFaults : Obligations.CoherentBlockNeverFaults := by
  intro s e hs
  unfold step
  split
  · exact resume_ne_fault (hs.busy_iff.mp ‹_›) e
  · split
    · simp
    · simp
    · exact exec_ne_fault _ _ e
    · simp

/-! ## READY -/

/-- Settles O55. -/
theorem notReadyRefusesSends : Obligations.NotReadyRefusesSends := by
  refine ⟨fun s i hx hw hb hr => ?_, fun s t i b hx h => ?_⟩
  · obtain ⟨⟨o, c, ms⟩, hx⟩ := Option.isSome_iff_exists.mp hx
    rw [exec_wellFormed hx hw]
    simp [exchange, hb, hr]
  · obtain ⟨r, hr⟩ | ⟨f, hf, he⟩ := exec_withoutSend hx
    · rw [hr] at h; cases h
    · rw [he] at h
      obtain ⟨hb, rfl⟩ := immediate_next h
      change exec i (s.setReady b) = .next ((f s).setReady b)
      rw [he, hf, immediate, if_neg (by simp [hb])]

/-- No operation writes READY or the pending inputs. -/
theorem Executed.ready_inputs {i : Instr} {s t : State} (h : Executed i s t) :
    t.ready = s.ready ∧ t.inputs = s.inputs := by
  cases h with
  | sends o c ms hx hr h2 hm ht h => exact ⟨h.sameRequest.ready, h.sameRequest.inputs⟩
  | delivers r hx h => exact ⟨h.ready, h.inputs⟩
  | creates hi h => simp [h]

/-- Settles O59: of all a step can do, only taking a level of READY changes READY. -/
theorem readyIsDrivenByTheTransport : Obligations.ReadyIsDrivenByTheTransport := by
  refine ⟨fun s t i h => (exec_next h).2.ready_inputs, fun s t h hne => ?_⟩
  cases step_next h with
  | goesOn hb h => exact absurd h.sameRequest.ready hne
  | waits hb hf h => exact absurd (by rw [h]) hne
  | level b hb hf h =>
    obtain ⟨rest, hi⟩ := inputs_of_fetch_level hf
    exact ⟨hb, b, rest, hi, by simp [h]⟩
  | runs i hb hf h => exact absurd h.ready_inputs.1 hne

/-- Settles O49. -/
theorem resetLeavesAnIdleChannel : Obligations.ResetLeavesAnIdleChannel := ⟨rfl, rfl, rfl⟩

end Sys2Proof.Machine
end

section
/-! SUPPORT. The statements about the block's buffers and indexes (20_memory): which byte of a frame an index into its
payload or into the stripped reply names, and what one step hands the transport. -/

namespace Sys2Proof.Machine

/-! ## Payload and reply indexes -/

theorem slice_getElem? {s : List Byte} {a b i : Nat} (h : i < b - a) : (slice s a b)[i]? = s[i + a]? := by
  rw [slice, List.getElem?_take_of_lt h, List.getElem?_drop, Nat.add_comm]

theorem stripEcho_getElem? (p : List Byte) (j : Nat) : (stripEcho p)[j]? = p[j + 2]? := by
  rw [stripEcho, List.getElem?_drop, Nat.add_comm]

/-- A payload is its frame without prefix, length byte and checksum. -/
theorem decodeFrame_ok_length_eq {f p : List Byte} (h : decodeFrame f = .ok p) : p.length = f.length - 3 := by
  obtain ⟨b, l, rest, -, -, -, rfl⟩ := decodeFrame_ok h
  rw [slice_length]
  omega

/-- Payload index `i` is frame index `i + 2` (20 R51). -/
theorem decodeFrame_ok_getElem? {f p : List Byte} (h : decodeFrame f = .ok p) {i : Nat} (hi : i < p.length) :
    p[i]? = f[i + 2]? := by
  have hlen := decodeFrame_ok_length_eq h
  obtain ⟨b, l, rest, -, -, -, rfl⟩ := decodeFrame_ok h
  exact slice_getElem? (by omega)

/-- Settles O19: both index spaces are shifts of the frame's, by the two header bytes and by the two echo bytes. -/
theorem indexSpacesAreViews : Obligations.IndexSpacesAreViews := by
  intro f p h
  refine ⟨decodeFrame_ok_length_eq h, fun i => decodeFrame_ok_getElem? h, fun j hj => ?_⟩
  calc (stripEcho p)[j]? = p[j + 2]? := stripEcho_getElem? p j
    _ = f[j + 4]? := decodeFrame_ok_getElem? h hj

/-! ## What a step hands the transport -/

/-- The checksum byte brings the sum of a frame to zero (40 R105). -/
theorem sum8_encodeFrame (p : List Byte) : sum8 (encodeFrame p) = 0 := by
  simp [encodeFrame, chk8, neg8_eq_neg]

/-- ENCODE on its domain makes frames of the wire (30 R71, R72). -/
theorem validFrame_encodeFrame {p : List Byte} (h : p.length ≤ 254) : ValidFrame (encodeFrame p) where
  size := by simpa [Config.frameMax] using h
  pfx := rfl
  len := by
    refine ⟨BitVec.ofNat 8 (p.length + 1), rfl, ?_⟩
    rw [encodeFrame_length, BitVec.toNat_ofNat]
    omega
  sum := sum8_encodeFrame p

/-- From `s` to `t` a SEND has handed over nothing, or, from phase ENC, the one frame of its command (41 R131). -/
inductive HandsOver (s t : State) : Prop where
  | nothing (hs : t.sent = s.sent)
  | frame (hp : s.phase = .enc) (hx : t.txf = encodeFrame t.cmd) (hs : t.sent = s.sent ++ [⟨t.txf, t.timeout⟩])

/-- A move that leaves the request, TXF and the record of frames alone hands over no more. -/
theorem HandsOver.congr {s u t : State} (h : HandsOver s u) (hs : t.sent = u.sent) (hx : t.txf = u.txf)
    (hc : t.cmd = u.cmd) (ht : t.timeout = u.timeout) : HandsOver s t := by
  obtain h | ⟨hp, hux, hus⟩ := h
  · exact .nothing (hs.trans h)
  · exact .frame hp (by rw [hx, hc, hux]) (by rw [hs, hx, ht, hus])

/-- No move leads back to ENC: only the SEND's first state can stand there. -/
theorem SendPath.eq_of_phase_enc {s u : State} (h : SendPath s u) (hp : u.phase = .enc) : u = s := by
  cases h with
  | here => rfl
  | receive hu hx => simp [hx] at hp
  | handOver | toDec | toCorr => cases hp

theorem SendPath.handsOver {s u : State} (h : SendPath s u) : HandsOver s u := by
  induction h with
  | here => exact .nothing rfl
  | handOver hu hp =>
    obtain rfl := hu.eq_of_phase_enc hp
    exact .frame hp rfl rfl
  | receive _ _ ih => exact ih.congr (by simp) (by simp) (by simp) (by simp)
  | toDec _ _ ih | toCorr _ _ _ ih => exact ih.congr rfl rfl rfl rfl

theorem SendStep.handsOver {s t : State} (h : SendStep s t) : HandsOver s t := by
  obtain ⟨hp, -, rfl⟩ | ⟨u, hu, ⟨_, rfl⟩ | ⟨_, rfl⟩⟩ := h
  · exact .frame hp rfl rfl
  all_goals exact hu.handsOver.congr rfl rfl rfl rfl

/-- An operation hands over nothing, or the one frame of the command it has issued (30 R92). -/
theorem Executed.sent_cases {i : Instr} {s t : State} (h : Executed i s t) :
    t.sent = s.sent ∨ (t.txf = encodeFrame t.cmd ∧ t.sent = s.sent ++ [⟨t.txf, t.timeout⟩]) := by
  cases h with
  | sends o c ms hx hr h2 hm ht h =>
    obtain hs | ⟨-, hx, hs⟩ := h.handsOver
    · exact .inl hs
    · exact .inr ⟨hx, hs⟩
  | delivers r hx h => exact .inl h.sent
  | creates hi h => exact .inl (by rw [h, State.createReset_sent])

/-- A step hands over nothing, or the one frame of its command, at the command's issue. -/
theorem step_sent_cases {s t : State} (h : step s = .next t) :
    t.sent = s.sent ∨ (t.txf = encodeFrame t.cmd ∧ t.sent = s.sent ++ [⟨t.txf, t.timeout⟩] ∧
      (s.busy = false ∨ s.phase = .enc)) := by
  cases step_next h with
  | goesOn hb h =>
    obtain hs | ⟨hp, hx, hs⟩ := h.handsOver
    · exact .inl hs
    · exact .inr ⟨hx, hs, .inr hp⟩
  | waits hb hf h => exact .inl (by rw [h])
  | level b hb hf h => exact .inl (by rw [h]; rfl)
  | runs i hb hf h =>
    obtain hs | ⟨hx, hs⟩ := h.sent_cases
    · exact .inl hs
    · exact .inr ⟨hx, hs, .inl hb⟩

/-- Settles O58: the frame is the encoding of CMD, and valid because the invariant, kept by the step, bounds CMD. -/
theorem oneValidFramePerExchange : Obligations.OneValidFramePerExchange := by
  intro s t hs h
  refine (step_sent_cases h).imp_right fun ⟨hx, hsent, hissue⟩ => ⟨?_, hx, hsent, hissue⟩
  have ht : t.Inv := stepKeepsTheInvariant s t hs h
  exact hx ▸ validFrame_encodeFrame ht.cmd_le

end Sys2Proof.Machine
end

section
/-! SUPPORT. The statements about the encodings (30_encoding). Each wire format has one lemma that says which bytes its
decoder accepts, in terms of the encoder's own format, and both directions of the round trip read it. -/

namespace Sys2Proof.Machine

/-! ## Words and bytes -/

@[simp] theorem fitsByte_iff (n : Nat) : fitsByte n = true ↔ n < 256 := by simp [fitsByte]

@[simp] theorem fitsTagWord_iff (n : Nat) : fitsTagWord n = true ↔ n < 65536 := by simp [fitsTagWord]

theorem be16_toNat (hi lo : Byte) : (be16 hi lo).toNat = hi.toNat * 256 + lo.toNat := by
  rw [be16, BitVec.toNat_ofNat]
  omega

theorem hi8_toNat (w : TagWord) : (hi8 w).toNat = w.toNat / 256 := by
  rw [hi8, BitVec.toNat_ofNat]
  omega

theorem lo8_toNat (w : TagWord) : (lo8 w).toNat = w.toNat % 256 := by
  rw [lo8, BitVec.toNat_ofNat]
  omega

@[simp] theorem hi8_be16 (hi lo : Byte) : hi8 (be16 hi lo) = hi := by
  apply BitVec.eq_of_toNat_eq
  rw [hi8_toNat, be16_toNat]
  omega

@[simp] theorem lo8_be16 (hi lo : Byte) : lo8 (be16 hi lo) = lo := by
  apply BitVec.eq_of_toNat_eq
  rw [lo8_toNat, be16_toNat]
  omega

@[simp] theorem be16_hi8_lo8 (w : TagWord) : be16 (hi8 w) (lo8 w) = w := by
  apply BitVec.eq_of_toNat_eq
  rw [be16_toNat, hi8_toNat, lo8_toNat]
  omega

/-- WORDS undoes BYTES (40 R114). -/
@[simp] theorem words_bytesOf (ws : List TagWord) : words (bytesOf ws) = ws := by
  induction ws with
  | nil => rfl
  | cons w ws ih => simp [ih]

/-- BYTES undoes WORDS where no byte is dropped (40 R114), and there are half as many words. -/
theorem bytesOf_words {s : List Byte} {k : Nat} (h : s.length = 2 * k) :
    bytesOf (words s) = s ∧ (words s).length = k := by
  induction k generalizing s with
  | zero => simp [List.eq_nil_of_length_eq_zero h]
  | succ k ih =>
    match s, h with
    | hi :: lo :: rest, h =>
      obtain ⟨hb, hl⟩ := ih (s := rest) (by simpa [Nat.mul_succ] using h)
      simp [hb, hl]

@[simp] theorem tagWords_length (ws : List Nat) : (tagWords ws).length = ws.length := by simp [tagWords]

theorem tagWords_map_toNat (ws : List TagWord) : tagWords (ws.map BitVec.toNat) = ws := by
  simp [tagWords, Function.comp_def]

theorem map_toNat_tagWords {ws : List Nat} (h : ∀ w ∈ ws, w < 65536) : (tagWords ws).map BitVec.toNat = ws := by
  rw [tagWords, List.map_map]
  exact (List.map_congr_left fun w hw => Nat.mod_eq_of_lt (h w hw)).trans (List.map_id' ws)

/-- Word `m` stands at bytes `2m` and `2m + 1` (30 R78). -/
theorem bytesOf_getElem? (ws : List TagWord) (m : Nat) :
    (bytesOf ws)[2 * m]? = ws[m]?.map hi8 ∧ (bytesOf ws)[2 * m + 1]? = ws[m]?.map lo8 := by
  induction ws generalizing m with
  | nil => simp
  | cons w ws ih =>
    cases m with
    | zero => simp
    | succ m => simpa [Nat.mul_succ] using ih m

/-! ## The bytes a format's decoder accepts -/

theorem toNat_ofNat_byte {n : Nat} (h : n < 256) : (BitVec.ofNat 8 n).toNat = n := Nat.mod_eq_of_lt h

theorem decodeC2_eq_ok {i j : Instr} {rest : List Byte} (op : Byte) :
    decodeC2 j rest = .ok i ↔ i = j ∧ op :: rest = commandC2 op := by
  constructor
  · intro h
    unfold decodeC2 at h
    split at h
    · split at h <;> cases h
      exact ⟨rfl, by simp [commandC2, *]⟩
    · cases h
  · rintro ⟨rfl, hc⟩
    cases hc
    rfl

theorem decodeSetbuzzer_eq_ok {i : Instr} {rest : List Byte} :
    decodeSetbuzzer rest = .ok i ↔
      ∃ mode < 256, i = .setbuzzer mode ∧ opSetbuzzer :: rest = commandC3 opSetbuzzer mode := by
  constructor
  · intro h
    unfold decodeSetbuzzer at h
    split at h
    · split at h <;> cases h
      exact ⟨_, BitVec.isLt _, rfl, by simp [commandC3, *]⟩
    · cases h
  · rintro ⟨mode, hm, rfl, hc⟩
    cases hc
    simp only [decodeSetbuzzer, toNat_ofNat_byte hm, if_pos]

theorem decodeReadwords_eq_ok {i : Instr} {rest : List Byte} :
    decodeReadwords rest = .ok i ↔ ∃ bank < 256, ∃ addr < 256, ∃ n < 256,
      i = .readwords bank addr n ∧ opReadwords :: rest = commandC5 opReadwords bank addr n := by
  constructor
  · intro h
    unfold decodeReadwords at h
    split at h
    · split at h <;> cases h
      exact ⟨_, BitVec.isLt _, _, BitVec.isLt _, _, BitVec.isLt _, rfl, by simp [commandC5, *]⟩
    · cases h
  · rintro ⟨bank, hb, addr, ha, n, hn, rfl, hc⟩
    cases hc
    simp only [decodeReadwords, toNat_ofNat_byte hb, toNat_ofNat_byte ha, toNat_ofNat_byte hn, if_pos]

theorem commandCW_eq_cons (op : Byte) (bank addr : Nat) (data : List Nat) :
    commandCW op bank addr data = op :: 0 :: writeMode data.length :: BitVec.ofNat 8 bank :: BitVec.ofNat 8 addr ::
      BitVec.ofNat 8 data.length :: bytesOf (tagWords data) := rfl

/-- The words of an accepted WRITEWORDS are all its data bytes, so CNT and WMODE are the encoder's (30 R84). -/
theorem decodeWritewords_eq_ok {i : Instr} {rest : List Byte} :
    decodeWritewords rest = .ok i ↔ ∃ bank < 256, ∃ addr < 256, ∃ data : List Nat,
      data.length ≤ Config.wordsMaxWrite ∧ (∀ w ∈ data, w < 65536) ∧
      i = .writewords bank addr data ∧ opWritewords :: rest = commandCW opWritewords bank addr data := by
  constructor
  · intro h
    unfold decodeWritewords at h
    split at h
    · split_ifs at h with hrsv hcnt hmode
      cases h
      rename_i rsv wmode bank addr cnt bs
      simp only [not_or, not_not, Nat.not_lt] at hrsv hcnt hmode
      obtain ⟨hlen, hmax⟩ := hcnt
      obtain ⟨hbytes, hwords⟩ := bytesOf_words hlen
      refine ⟨_, bank.isLt, _, addr.isLt, _, by simpa [hwords] using hmax, ?_, rfl, ?_⟩
      · simp only [List.mem_map]
        rintro _ ⟨w, -, rfl⟩
        exact w.isLt
      · simp [commandCW, tagWords_map_toNat, hbytes, hwords, hrsv, hmode]
    · cases h
  · rintro ⟨bank, hb, addr, ha, data, hmax, hw, rfl, hc⟩
    have hk : (BitVec.ofNat 8 data.length).toNat = data.length :=
      toNat_ofNat_byte (Nat.lt_of_le_of_lt hmax (by decide))
    have hlen : (bytesOf (tagWords data)).length = 2 * data.length := by simp [bytesOf_length]
    rw [commandCW_eq_cons, List.cons.injEq] at hc
    obtain ⟨-, rfl⟩ := hc
    simp only [decodeWritewords, hk, toNat_ofNat_byte hb, toNat_ofNat_byte ha, words_bytesOf, map_toNat_tagWords hw,
      hlen, ne_eq, not_true_eq_false, Nat.not_lt.mpr hmax, or_self, if_false]

theorem decodeRaw_eq_ok {i : Instr} {op : Byte} {f : List Byte → Instr} {args : List Byte} :
    decodeRaw op f args = .ok i ↔ commandLengthOk (op :: args) = true ∧ i = f args := by
  constructor
  · intro h
    unfold decodeRaw at h
    split at h <;> cases h
    exact ⟨‹_›, rfl⟩
  · rintro ⟨hl, rfl⟩
    exact if_pos hl

/-! ## The round trip -/

theorem encodeCommand_of_decodeC2 {i j : Instr} {op : Byte} {rest : List Byte} (hw : j.wellFormed = true)
    (he : encodeCommand j = some (commandC2 op)) (h : decodeC2 j rest = .ok i) :
    i.wellFormed = true ∧ encodeCommand i = some (op :: rest) := by
  obtain ⟨rfl, hc⟩ := (decodeC2_eq_ok op).mp h
  exact ⟨hw, hc ▸ he⟩

/-- A wire command that decodes is well formed and is the encoding of what it decodes to. -/
theorem encodeCommand_of_decodeCommand {c : List Byte} {i : Instr} (h : decodeCommand c = .ok i) :
    i.wellFormed = true ∧ encodeCommand i = some c := by
  match c with
  | [] => cases h
  | op :: rest =>
    simp only [decodeCommand] at h
    split_ifs at h <;> subst op
    · exact encodeCommand_of_decodeC2 rfl rfl h
    · exact encodeCommand_of_decodeC2 rfl rfl h
    · obtain ⟨bank, hb, addr, ha, n, hn, rfl, hc⟩ := decodeReadwords_eq_ok.mp h
      exact ⟨by simp [Instr.wellFormed, hb, ha, hn], congrArg some hc.symm⟩
    · obtain ⟨bank, hb, addr, ha, data, hmax, hw, rfl, hc⟩ := decodeWritewords_eq_ok.mp h
      exact ⟨by simpa [Instr.wellFormed, hb, ha] using ⟨hmax, hw⟩, congrArg some hc.symm⟩
    · exact encodeCommand_of_decodeC2 rfl rfl h
    · obtain ⟨hl, rfl⟩ := decodeRaw_eq_ok.mp h
      exact ⟨hl, rfl⟩
    · exact encodeCommand_of_decodeC2 rfl rfl h
    · obtain ⟨mode, hm, rfl, hc⟩ := decodeSetbuzzer_eq_ok.mp h
      exact ⟨by simp [Instr.wellFormed, hm], congrArg some hc.symm⟩
    · obtain ⟨hl, rfl⟩ := decodeRaw_eq_ok.mp h
      exact ⟨hl, rfl⟩
    · obtain ⟨hl, rfl⟩ := decodeRaw_eq_ok.mp h
      exact ⟨hl, rfl⟩

/-- Settles O3, format by format. -/
theorem decodedCommandsReencode : Obligations.DecodedCommandsReencode :=
  fun _ _ => encodeCommand_of_decodeCommand

/-- The command of a well-formed reader command decodes to it. -/
theorem decodeCommand_of_encodeCommand {i : Instr} {c : List Byte} (hw : i.wellFormed = true)
    (h : encodeCommand i = some c) : decodeCommand c = .ok i := by
  cases i <;> simp only [encodeCommand, Option.some.injEq, reduceCtorEq] at h <;> subst c
  case startcont => rfl
  case getversion => rfl
  case identify => rfl
  case stopcont => rfl
  case readwords bank addr n =>
    simp only [Instr.wellFormed, Bool.and_eq_true, fitsByte_iff, and_assoc] at hw
    obtain ⟨hb, ha, hn⟩ := hw
    exact decodeReadwords_eq_ok.mpr ⟨bank, hb, addr, ha, n, hn, rfl, rfl⟩
  case writewords bank addr data =>
    simp only [Instr.wellFormed, Bool.and_eq_true, fitsByte_iff, decide_eq_true_eq, List.all_eq_true,
      fitsTagWord_iff, and_assoc] at hw
    obtain ⟨hb, ha, hmax, hd⟩ := hw
    exact decodeWritewords_eq_ok.mpr ⟨bank, hb, addr, ha, data, hmax, hd, rfl, rfl⟩
  case setbuzzer mode => exact decodeSetbuzzer_eq_ok.mpr ⟨mode, (fitsByte_iff mode).mp hw, rfl, rfl⟩
  case rawA6 args => exact decodeRaw_eq_ok.mpr ⟨hw, rfl⟩
  case rawFC args => exact decodeRaw_eq_ok.mpr ⟨hw, rfl⟩
  case rawFF args => exact decodeRaw_eq_ok.mpr ⟨hw, rfl⟩

/-- Settles O2: the wire space by the formats, the host space by the OPSEL laws, and CREATE by the reset input. -/
theorem encodedOperationsDecodeBack : Obligations.EncodedOperationsDecodeBack := by
  intro i hw
  unfold encode
  split
  case h_1 c hc => exact decodeCommand_of_encodeCommand hw hc
  case h_2 hc =>
    cases i <;> simp only [encodeCommand, reduceCtorEq] at hc
    case chk8 s => exact congrArg Decoded.ok (Laws.Opsel.chk8 s _ rfl)
    case encode p => exact congrArg Decoded.ok (Laws.Opsel.encode p _ rfl)
    case decode f => exact congrArg Decoded.ok (Laws.Opsel.decode f _ rfl)
    case send c ms => exact congrArg Decoded.ok (Laws.Opsel.send c ms _ rfl)
    case getlasterror => exact congrArg Decoded.ok (Laws.Opsel.getlasterror _ rfl)
    case words s => exact congrArg Decoded.ok (Laws.Opsel.words s _ rfl)
    case bytes ws => exact congrArg Decoded.ok (Laws.Opsel.bytes ws _ rfl)
    case raw cmd => exact congrArg Decoded.ok (Laws.Opsel.raw cmd _ rfl)
    case create => rfl
    case reserved => exact congrArg Decoded.ok (Laws.Opsel.reserved _ rfl)

/-! ## The catalogue's rows -/

/-- Two rows one word can match agree on the bits both fix; no two rows of the catalogue do. -/
theorem catalogueRows_separate : ∀ j k : Fin catalogueRows.length,
    catalogueRows[j].1 &&& catalogueRows[k].2 = catalogueRows[k].1 &&& catalogueRows[j].2 → j = k := by
  decide

theorem and_agree_of_matches {w vp mp vq mq : TagWord} (hp : w &&& mp = vp) (hq : w &&& mq = vq) :
    vp &&& mq = vq &&& mp := by
  rw [← hp, ← hq, BitVec.and_assoc, BitVec.and_assoc, BitVec.and_comm mp]

theorem be16_eq_append (hi lo : Byte) : be16 hi lo = hi ++ lo := by
  apply BitVec.eq_of_toNat_eq
  rw [be16_toNat, BitVec.toNat_append, ← Nat.shiftLeft_add_eq_or_of_lt lo.isLt, Nat.shiftLeft_eq]

/-- The mask of the RAW_xx rows keeps the opcode and drops the second byte. -/
theorem be16_and_opcodeMask (hi lo : Byte) : be16 hi lo &&& 0xFF00 = be16 hi 0 := by
  have hmask : (0xFF00 : TagWord) = BitVec.allOnes 8 ++ (0 : Byte) := by decide
  rw [be16_eq_append, be16_eq_append, hmask, BitVec.and_append, BitVec.and_allOnes]
  exact congrArg (hi ++ ·) BitVec.and_zero

theorem commandWord_and_opcodeMask (op : Byte) (args : List Byte) :
    commandWord (op :: args) &&& 0xFF00 = be16 op 0 := by
  cases args <;> exact be16_and_opcodeMask _ _

/-- The command of an operation matches the operation's row (30 R85). -/
theorem commandWord_matches_row {i : Instr} {c : List Byte} (h : encodeCommand i = some c) :
    ∃ j row, rowIndex i = some j ∧ catalogueRows[j]? = some row ∧ commandWord c &&& row.2 = row.1 := by
  cases i <;> simp only [encodeCommand, Option.some.injEq, reduceCtorEq] at h <;> subst c <;>
    refine ⟨_, _, rfl, rfl, ?_⟩
  case rawA6 args => exact commandWord_and_opcodeMask opRawA6 args
  case rawFC args => exact commandWord_and_opcodeMask opRawFC args
  case rawFF args => exact commandWord_and_opcodeMask opRawFF args
  all_goals exact BitVec.and_allOnes (x := be16 _ 0)

/-- Settles O4: a decoded command is the encoding of its operation, which matches its row. -/
theorem catalogueRowsSeparateCommands : Obligations.CatalogueRowsSeparateCommands := by
  refine ⟨fun w j k p q hj hk hp hq => ?_, fun c i h => ?_, fun op rest h => ?_⟩
  · obtain ⟨hjl, rfl⟩ := List.getElem?_eq_some_iff.mp hj
    obtain ⟨hkl, rfl⟩ := List.getElem?_eq_some_iff.mp hk
    exact congrArg Fin.val (catalogueRows_separate ⟨j, hjl⟩ ⟨k, hkl⟩ (and_agree_of_matches hp hq))
  · exact commandWord_matches_row (encodeCommand_of_decodeCommand h).2
  · simp only [List.mem_cons, List.not_mem_nil, or_false, not_or] at h
    obtain ⟨h1, h2, h3, h4, h5, h6, h7, h8, h9, h10⟩ := h
    rw [decodeCommand, if_neg h1, if_neg h2, if_neg h3, if_neg h4, if_neg h5, if_neg h6, if_neg h7, if_neg h8,
      if_neg h9, if_neg h10]

/-! ## Command layouts -/

/-- Settles O7: the header by computation, the words by their places in BYTES. -/
theorem writewordsCommandLayout : Obligations.WritewordsCommandLayout := by
  intro bank addr data hb ha hd
  refine ⟨fun hk => ⟨commandCW opWritewords bank addr data, rfl, ?_⟩, fun hk => by omega⟩
  have hlen : (commandCW opWritewords bank addr data).length = 6 + 2 * data.length := by
    rw [commandCW, List.length_append, bytesOf_length, tagWords_length]
    rfl
  refine ⟨hlen, by omega, by rw [encodeFrame_length, hlen]; omega, ?_, rfl, rfl, ?_,
    congrArg some (toNat_ofNat_byte hb), congrArg some (toNat_ofNat_byte ha),
    congrArg some (toNat_ofNat_byte (by omega)), fun m w hm => ?_⟩
  · change some (BitVec.ofNat 8 ((commandCW opWritewords bank addr data).length + 1)).toNat = _
    rw [hlen, toNat_ofNat_byte (by omega)]
    congr 1
    omega
  · cases data <;> rfl
  · have hw : w < 65536 := hd w (List.mem_of_getElem? hm)
    have hbody (j : Nat) : (commandCW opWritewords bank addr data)[6 + j]? = (bytesOf (tagWords data))[j]? := by
      rw [commandCW]
      exact List.getElem?_append_right (Nat.le_add_right 6 j) |>.trans (by simp)
    obtain ⟨hhi, hlo⟩ := bytesOf_getElem? (tagWords data) m
    have hword : (tagWords data)[m]? = some (BitVec.ofNat 16 w) := by simp [tagWords, hm]
    rw [show 7 + 2 * m = 6 + (2 * m + 1) by omega, hbody, hbody, hhi, hlo, hword]
    simp [hi8_toNat, lo8_toNat, Nat.mod_eq_of_lt hw]

/-- Settles O6. -/
theorem fixedCommandFormats : Obligations.FixedCommandFormats := by
  refine ⟨fun i op h => ?_, fun mode hm => ⟨rfl, toNat_ofNat_byte hm, rfl⟩, fun bank addr n hb ha hn =>
    ⟨rfl, toNat_ofNat_byte hb, toNat_ofNat_byte ha, toNat_ofNat_byte hn, rfl⟩⟩
  simp only [List.mem_cons, Prod.mk.injEq, List.not_mem_nil, or_false] at h
  obtain ⟨rfl, rfl⟩ | ⟨rfl, rfl⟩ | ⟨rfl, rfl⟩ | ⟨rfl, rfl⟩ := h <;> exact ⟨rfl, rfl⟩

/-- Settles O1. -/
theorem writtenOutWordsDecode : Obligations.WrittenOutWordsDecode := by
  unfold Obligations.WrittenOutWordsDecode
  decide

/-! ## The reserved byte -/

/-- A catalogued command is a SEND of its own bytes, the second of which is 0x00 (30 R88). -/
theorem exchangeOf_of_isCatalogued {i : Instr} {cmd : List Byte} (hi : isCatalogued i = true)
    (h : encodeCommand i = some cmd) :
    ∃ o op rest, cmd = op :: 0 :: rest ∧ exchangeOf i = some (o, cmd, 1000) := by
  cases i <;> simp only [isCatalogued, Bool.false_eq_true] at hi <;> cases h <;>
    exact ⟨_, _, _, rfl, rfl⟩

/-- The correlation test compares the reserved byte with 0x00, so SEND fails on any other (41 R134). -/
theorem sendResult_of_reserved_ne {op p0 p1 : Byte} {rest p a : List Byte}
    (ha : decodeFrame a = .ok (p0 :: p1 :: p)) (hp : p1 ≠ 0) :
    sendResult (op :: 0 :: rest) a = .err .unsolicited := by
  have hne : a ≠ [] := by rintro rfl; cases ha
  have hecho : echoes (op :: 0 :: rest) (p0 :: p1 :: p) = false := by
    rw [echoes_cons, beq_false_of_ne hp, Bool.and_false]
  simp only [sendResult, hne, ha, hecho, if_false, Bool.false_eq_true]

/-- Settles O41: the SEND of a catalogued command fails on the reserved byte, and the exchange with it. -/
theorem nonzeroReservedByteIsUnsolicited : Obligations.NonzeroReservedByteIsUnsolicited := by
  intro i cmd hi hw h
  obtain ⟨o, op, rest, rfl, hx⟩ := exchangeOf_of_isCatalogued hi h
  refine ⟨rfl, fun s a p0 p1 p hs ha hp => ?_⟩
  obtain ⟨h2, hm, ht⟩ := exchangeOf_wellFormed hx hw
  obtain ⟨b, hb, he⟩ := exchange_fails (o := o) hs h2 hm ht (sendResult_of_reserved_ne ha hp)
  have hend := hb.errorEntry hs .unsolicited .none
  exact ⟨_, (exec_wellFormed hx hw).trans he, hend.status, hend.lasterr, hend.delivered⟩

/-! ## A step on a request -/

theorem fetch_of_request {s : State} {r : Request} {rest : List Input} {i : Instr}
    (hs : s.inputs = .request r :: rest) (hr : decodeRequest r = .ok i) : fetch s = .instr i := by
  simp [fetch, hs, hr]

/-- Settles O47. -/
theorem stepRunsTheDecodedOperation : Obligations.StepRunsTheDecodedOperation := by
  intro s r rest i hb hs hr
  have hdrop : s.dropInput = { s with inputs := rest } := by simp [State.dropInput, hs]
  rw [step, if_neg (by simp [hb]), fetch_of_request hs hr, ← hdrop]

end Sys2Proof.Machine
end

section
/-! SUPPORT. The statements about FrameCodec (40_frame_codec). What DECODE answers is said
once, by the length and the sum, and a byte brings a sum to zero exactly when it is the checksum; the round trip, the
detection of a changed byte and the uniqueness of the checksum read these. The byte-serial datapath is tied to the pure
functions by saying what its registers hold after any number of bytes. -/

namespace Sys2Proof.Machine

/-! ## The byte sum -/

theorem neg8_bijective : Function.Bijective neg8 := by
  have h : neg8 = Neg.neg := funext neg8_eq_neg
  exact h ▸ neg_involutive.bijective

/-- The checksum is the one byte that brings the sum to zero (40 R101). -/
theorem sum8_append_singleton_eq_zero_iff {s : List Byte} {c : Byte} : sum8 (s ++ [c]) = 0 ↔ c = chk8 s := by
  rw [sum8_append, sum8_cons, sum8_nil, add_zero, add_eq_zero_iff_neg_eq, chk8, neg8_eq_neg, eq_comm]

theorem sum8_perm {s t : List Byte} (h : s.Perm t) : sum8 t = sum8 s := by
  rw [sum8, sum8, (h.map _).sum_eq]

/-- Replacing a byte moves the sum by the difference of the bytes. -/
theorem sum8_set {s : List Byte} {k : Nat} {b c : Byte} (h : s[k]? = some c) :
    sum8 (s.set k b) + c = sum8 s + b := by
  induction s generalizing k with
  | nil => cases h
  | cons a s ih =>
    cases k with
    | zero =>
      obtain rfl : a = c := by simpa using h
      rw [List.set_cons_zero, sum8_cons, sum8_cons]
      abel
    | succ k => rw [List.set_cons_succ, sum8_cons, sum8_cons, BitVec.add_assoc, ih h, BitVec.add_assoc]

theorem sum8_set_ne {s : List Byte} {k : Nat} {b c : Byte} (h : s[k]? = some c) (hbc : b ≠ c) :
    sum8 (s.set k b) ≠ sum8 s :=
  fun heq => hbc (add_left_cancel (heq ▸ sum8_set h)).symm

/-- Absorbing bytes one by one adds their sum, whatever the accumulator held (40 R110). -/
theorem foldl_add_eq (s : List Byte) (a : Byte) : s.foldl (fun acc b => acc + b) a = a + sum8 s := by
  induction s generalizing a with
  | nil => simp
  | cons b s ih => rw [List.foldl_cons, ih, sum8_cons, BitVec.add_assoc]

theorem accumulate_eq_sum8 (s : List Byte) : accumulate s = sum8 s := by
  rw [accumulate, foldl_add_eq, zero_add]

/-! ## DECODE by its length byte -/

theorem decodeFrame_of_length_lt {f : List Byte} (h : f.length < 2) : decodeFrame f = .err .lengthMismatch := by
  match f, h with
  | [], _ => rfl
  | [_], _ => rfl

section

variable {f : List Byte} {l : Byte} (hl : f[1]? = some l)
include hl

theorem decodeFrame_of_length_ne (h : f.length ≠ l.toNat + 2) : decodeFrame f = .err .lengthMismatch := by
  match f, hl with
  | _ :: _ :: _, rfl => exact if_pos h

theorem decodeFrame_of_sum_ne (h : f.length = l.toNat + 2) (hs : sum8 f ≠ 0) :
    decodeFrame f = .err .checksumMismatch := by
  match f, hl with
  | _ :: _ :: _, rfl => exact (if_neg (not_not.mpr h)).trans (if_pos hs)

theorem decodeFrame_of_sum_zero (h : f.length = l.toNat + 2) (hs : sum8 f = 0) :
    decodeFrame f = .ok (slice f 2 (f.length - 1)) := by
  match f, hl with
  | _ :: _ :: _, rfl => exact (if_neg (not_not.mpr h)).trans (if_neg (not_not.mpr hs))

end

/-- No length byte announces more than 257 bytes (40 R108). -/
theorem decodeFrame_of_frameMax_lt {f : List Byte} (h : 257 < f.length) : decodeFrame f = .err .lengthMismatch := by
  match f, h with
  | _ :: l :: _, h =>
    have := l.isLt
    exact decodeFrame_of_length_ne rfl (by omega)

/-! ## ENCODE and DECODE -/

/-- The slice DECODE takes of a frame is what stands between the length byte and the checksum (40 R106). -/
theorem slice_payload (b l c : Byte) (p : List Byte) :
    slice (b :: l :: (p ++ [c])) 2 ((b :: l :: (p ++ [c])).length - 1) = p := by
  simp [slice]

theorem lengthByte_toNat {p : List Byte} (h : p.length ≤ 254) :
    (BitVec.ofNat 8 (p.length + 1)).toNat = p.length + 1 := toNat_ofNat_byte (by omega)

/-- A payload between any first byte, its length byte and their checksum decodes: the prefix is not tested (40 R107). -/
theorem decodeFrame_closed (b : Byte) {p : List Byte} (h : p.length ≤ 254) :
    decodeFrame (b :: BitVec.ofNat 8 (p.length + 1) :: p ++ [chk8 (b :: BitVec.ofNat 8 (p.length + 1) :: p)]) =
      .ok p :=
  (decodeFrame_of_sum_zero (l := BitVec.ofNat 8 (p.length + 1)) rfl (by simp [lengthByte_toNat h])
    (sum8_append_singleton_eq_zero_iff.mpr rfl)).trans (congrArg Res.ok (slice_payload b _ _ p))

/-- ENCODE, then DECODE (40 R109). -/
theorem decodeFrame_encodeFrame {p : List Byte} (h : p.length ≤ 254) : decodeFrame (encodeFrame p) = .ok p :=
  decodeFrame_closed Config.framePrefix h

theorem encodeFrame_injOn {p q : List Byte} (hp : p.length ≤ 254) (hq : q.length ≤ 254)
    (h : encodeFrame p = encodeFrame q) : p = q := by
  have hok : Res.ok p = Res.ok q := by rw [← decodeFrame_encodeFrame hp, h, decodeFrame_encodeFrame hq]
  exact Res.ok.inj hok

/-- DECODE, then ENCODE, where the first byte is the prefix (40 R109). The frame without a checksum byte, whose length
byte is 0, is no exception: its sum is the prefix and not zero. -/
theorem encodeFrame_of_decodeFrame {f p : List Byte} (h : decodeFrame f = .ok p) (h0 : f[0]? = some 0xA0) :
    encodeFrame p = f := by
  obtain ⟨b, l, rest, rfl, hlen, hsum, rfl⟩ := decodeFrame_ok h
  obtain rfl : b = 0xA0 := by simpa using h0
  obtain rfl | ⟨q, c, rfl⟩ := List.eq_nil_or_concat' rest
  · obtain rfl : l = 0 := BitVec.eq_of_toNat_eq (by simpa using hlen.symm)
    exact absurd hsum (by decide)
  · have hl : l = BitVec.ofNat 8 (q.length + 1) := by
      apply BitVec.eq_of_toNat_eq
      have := l.isLt
      simp only [List.length_cons, List.length_append, List.length_nil] at hlen
      rw [toNat_ofNat_byte (by omega)]
      omega
    have hc : c = chk8 (0xA0 :: l :: q) := sum8_append_singleton_eq_zero_iff.mp hsum
    rw [slice_payload, hc, hl]
    rfl

/-- A changed length byte contradicts the length; any other changed byte, the length byte standing, the sum
(40 R109). -/
theorem decodeFrame_set {f p : List Byte} {k : Nat} {b c : Byte} (h : decodeFrame f = .ok p) (hk : f[k]? = some c)
    (hbc : b ≠ c) : decodeFrame (f.set k b) = .err (if k = 1 then .lengthMismatch else .checksumMismatch) := by
  obtain ⟨a, l, rest, hf, hlen, hsum, -⟩ := decodeFrame_ok h
  have hl : f[1]? = some l := by rw [hf]; rfl
  by_cases h1 : k = 1
  · subst h1
    obtain rfl : l = c := Option.some.inj (hl.symm.trans hk)
    have hne : b.toNat ≠ l.toNat := fun heq => hbc (BitVec.eq_of_toNat_eq heq)
    rw [if_pos rfl, decodeFrame_of_length_ne (List.getElem?_set_self (by omega)) (by rw [List.length_set]; omega)]
  · have hs : sum8 (f.set k b) ≠ 0 := hsum ▸ sum8_set_ne hk hbc
    rw [if_neg h1, decodeFrame_of_sum_ne ((List.getElem?_set_ne h1).trans hl) (by rw [List.length_set, hlen]) hs]

/-- Settles O13, from the two directions of the round trip and the effect of one changed byte. -/
theorem codecRoundTripAndErrorDetection : Obligations.CodecRoundTripAndErrorDetection :=
  ⟨fun _ => decodeFrame_encodeFrame, fun _ _ => decodeFrame_of_length_ne, fun _ _ => decodeFrame_of_sum_ne,
    fun _ _ h => ⟨fun he => he ▸ rfl, encodeFrame_of_decodeFrame h⟩, fun _ _ _ _ _ => decodeFrame_set⟩

/-- Settles O8: the sum clause is that the checksum is the one byte bringing it to zero. -/
theorem negationIsTwosComplement : Obligations.NegationIsTwosComplement := by
  refine ⟨fun v => ⟨?_, neg8_eq_neg v, ?_⟩, rfl, rfl, rfl, rfl, neg8_bijective, fun pfx len payload =>
    ⟨chk8 (pfx :: len :: payload), sum8_append_singleton_eq_zero_iff.mpr rfl,
      fun _ => sum8_append_singleton_eq_zero_iff.mp⟩⟩
  · rw [neg8_eq_neg, BitVec.toNat_neg]
  · rw [neg8_eq_neg, ← BitVec.toNat_add, add_neg_cancel]
    rfl

/-- Settles O10. -/
theorem accumulatorIsByteSum : Obligations.AccumulatorIsByteSum := by
  intro s t h
  exact ⟨(accumulate_eq_sum8 t).trans (sum8_perm h), sum8_perm h, congrArg neg8 (sum8_perm h)⟩

/-- Settles O11: the frame is valid, and decodes to its payload. -/
theorem encodedFrameProperties : Obligations.EncodedFrameProperties := by
  refine ⟨fun p hp => ⟨?_, rfl, ?_, ?_, slice_payload _ _ _ p, sum8_encodeFrame p⟩,
    fun _ _ => encodeFrame_injOn⟩
  · rw [encodeFrame_length, Nat.add_comm]
  · exact congrArg some (lengthByte_toNat hp)
  · rw [encodeFrame_length]
    omega

/-- Settles O12. -/
theorem decodeProcedure : Obligations.DecodeProcedure := by
  refine fun f => ⟨decodeFrame_of_length_lt, ?_, ?_, decodeFrame_of_frameMax_lt⟩
  · rintro b l rest rfl
    refine ⟨decodeFrame_of_length_ne rfl, decodeFrame_of_sum_ne rfl, fun hlen hsum =>
      ⟨_, decodeFrame_of_sum_zero rfl hlen hsum, rfl, ?_⟩⟩
    rw [slice_length]
    omega
  · rintro b rfl
    have hsum : sum8 [b, 0] = b := by simp
    split
    case isTrue hb => rw [decodeFrame_of_sum_zero rfl rfl (hsum.trans hb)]; rfl
    case isFalse hb => exact decodeFrame_of_sum_ne rfl rfl (by rwa [hsum])

/-- Settles O14. -/
theorem prefixIsNotTested : Obligations.PrefixIsNotTested :=
  fun b _ hp => ⟨_, decodeFrame_closed b hp⟩

/-! ## The packer -/

/-- Pushing bytes emits and absorbs each of them (40 R111). -/
theorem foldl_packerPush (s : List Byte) (p : Packer) :
    s.foldl Packer.push p = ⟨p.acc + sum8 s, p.cnt + BitVec.ofNat 9 s.length, p.out ++ s⟩ := by
  induction s generalizing p with
  | nil => simp
  | cons b s ih =>
    rw [List.foldl_cons, ih, List.length_cons, Nat.add_comm s.length, BitVec.ofNat_add]
    simp [Packer.push, BitVec.add_assoc]

theorem packerRun_eq (p : List Byte) :
    packerRun p = ⟨sum8 (frameHead p), BitVec.ofNat 9 (p.length + 3), encodeFrame p⟩ := by
  simp [packerRun, foldl_packerPush, encodeFrame, chk8, BitVec.ofNat_add, BitVec.add_assoc]

/-- CNT does not wrap on ENCODE's domain (40 R111). -/
theorem packerRun_cnt_toNat {p : List Byte} (h : p.length ≤ 254) : (packerRun p).cnt.toNat = p.length + 3 := by
  rw [packerRun_eq, BitVec.toNat_ofNat]
  omega

/-- Settles O15. -/
theorem packerEmitsEncodedFrame : Obligations.PackerEmitsEncodedFrame := by
  intro p hp
  exact ⟨by rw [packerRun_eq], packerRun_cnt_toNat hp, by rw [packerRun_eq]⟩

/-! ## The unpacker -/

/-- What the unpacker holds after the bytes `m` (40 R112): CNT saturated at 258, LREG byte 1, RXF the first 257. -/
def Unpacker.after (m : List Byte) : Unpacker where
  acc := sum8 m
  cnt := BitVec.ofNat 9 (min m.length 258)
  lreg := m[1]?.getD 0
  rxf := m.take 257
  ovf := decide (257 < m.length)

@[simp] theorem Unpacker.after_acc (m : List Byte) : (Unpacker.after m).acc = sum8 m := rfl
@[simp] theorem Unpacker.after_lreg (m : List Byte) : (Unpacker.after m).lreg = m[1]?.getD 0 := rfl
@[simp] theorem Unpacker.after_rxf (m : List Byte) : (Unpacker.after m).rxf = m.take 257 := rfl
@[simp] theorem Unpacker.after_ovf (m : List Byte) : (Unpacker.after m).ovf = decide (257 < m.length) := rfl

theorem Unpacker.after_cnt_toNat (m : List Byte) : (Unpacker.after m).cnt.toNat = min m.length 258 := by
  rw [Unpacker.after, BitVec.toNat_ofNat]
  omega

/-- CNT shows the second byte, which goes to LREG. -/
theorem Unpacker.after_cnt_eq_one (m : List Byte) : (Unpacker.after m).cnt = 1 ↔ m.length = 1 := by
  rw [← BitVec.toNat_inj, Unpacker.after_cnt_toNat]
  change min m.length 258 = 1 ↔ _
  omega

/-- One more byte keeps the registers as they are said to be: CNT by whether it is saturated, LREG by whether the byte
is the second one, RXF and OVF by whether RXF is full. -/
theorem Unpacker.after_push (m : List Byte) (b : Byte) :
    (Unpacker.after m).push b = Unpacker.after (m ++ [b]) := by
  have hcnt := Unpacker.after_cnt_toNat m
  have hlen : (m ++ [b]).length = m.length + 1 := List.length_append
  refine Eq.mpr (Unpacker.mk.injEq ..) ⟨?acc, ?cnt, ?lreg, ?rxf, ?ovf⟩
  case acc => simp
  case cnt =>
    rw [hcnt, hlen]
    apply BitVec.eq_of_toNat_eq
    split
    · rw [BitVec.toNat_add, hcnt, BitVec.toNat_ofNat]
      change (_ + 1) % 512 = _ % 512
      omega
    · rw [hcnt, BitVec.toNat_ofNat]
      omega
  case lreg =>
    simp only [Unpacker.after_cnt_eq_one]
    match m with
    | [] => rfl
    | [_] => rfl
    | _ :: _ :: _ => rfl
  case rxf =>
    rw [hcnt]
    split <;> rename_i h <;> simp only [Config.frameMax] at h
    · rw [Unpacker.after_rxf, List.take_of_length_le (by omega), List.take_of_length_le (by omega)]
    · rw [Unpacker.after_rxf, List.take_append_of_le_length (by omega)]
  case ovf =>
    rw [hcnt, hlen]
    split <;> rename_i h <;> simp only [Config.frameMax] at h
    · exact decide_eq_decide.mpr (by omega)
    · exact (decide_eq_true (by omega)).symm

/-- After a whole message, byte after byte, the registers hold what they hold of it. -/
theorem unpackerRun_eq (m : List Byte) : unpackerRun m = Unpacker.after m := by
  induction m using List.reverseRecOn with
  | nil => rfl
  | append_singleton m b ih => rw [← Unpacker.after_push, ← ih, unpackerRun, List.foldl_append]; rfl

/-- The registers' tests are DECODE's (40 R112): CNT saturates above every length that LREG can announce, and RXF holds
the whole of a message of such a length. -/
theorem unpackerRun_verdict (m : List Byte) : (unpackerRun m).verdict = decodeFrame m := by
  rw [unpackerRun_eq, Unpacker.verdict, Unpacker.after_cnt_toNat]
  cases hl : m[1]? with
  | none =>
    have h2 : m.length < 2 := by have := List.getElem?_eq_none_iff.mp hl; omega
    rw [decodeFrame_of_length_lt h2, if_pos (.inl (by omega))]
  | some l =>
    have hlreg : (Unpacker.after m).lreg = l := by rw [Unpacker.after_lreg, hl]; rfl
    have h2 : 1 < m.length := (List.getElem?_eq_some_iff.mp hl).1
    have := l.isLt
    rw [hlreg, Unpacker.after_acc, Unpacker.after_rxf]
    by_cases hlen : m.length = l.toNat + 2
    · rw [if_neg (by omega), Nat.min_eq_left (by omega)]
      by_cases hs : sum8 m = 0
      · rw [decodeFrame_of_sum_zero hl hlen hs, if_neg (not_not.mpr hs), List.take_of_length_le (by omega)]
      · rw [decodeFrame_of_sum_ne hl hlen hs, if_pos hs]
    · rw [decodeFrame_of_length_ne hl hlen, if_pos (.inr (by omega))]

/-- Settles O16. -/
theorem unpackerDecodesEveryMessage : Obligations.UnpackerDecodesEveryMessage := by
  intro m
  have h := unpackerRun_eq m
  exact ⟨unpackerRun_verdict m, by rw [h]; rfl, by rw [h]; rfl, by rw [h]; rfl,
    by rw [h, Unpacker.after_cnt_toNat], decodeReceived_take m⟩

/-! ## Words -/

theorem hi8_ofNat (w : Nat) : hi8 (BitVec.ofNat 16 w) = BitVec.ofNat 8 (w / 256) := by
  apply BitVec.eq_of_toNat_eq
  rw [hi8_toNat, BitVec.toNat_ofNat, BitVec.toNat_ofNat]
  omega

theorem lo8_ofNat (w : Nat) : lo8 (BitVec.ofNat 16 w) = BitVec.ofNat 8 w := by
  apply BitVec.eq_of_toNat_eq
  rw [lo8_toNat, BitVec.toNat_ofNat, BitVec.toNat_ofNat]
  omega

/-- BYTES on the host's numbers: the high and the low byte of each (40 R114). -/
theorem bytesOf_tagWords (ws : List Nat) :
    bytesOf (tagWords ws) = ws.flatMap fun w => [BitVec.ofNat 8 (w / 256), BitVec.ofNat 8 w] := by
  simp only [bytesOf, tagWords, List.flatMap_map, hi8_ofNat, lo8_ofNat]

theorem be16_eq_shift_or (hi lo : Byte) : be16 hi lo = hi.setWidth 16 <<< 8 ||| lo.setWidth 16 := by
  rw [be16_eq_append, BitVec.append_def, BitVec.shiftLeftZeroExtend_eq]
  rfl

theorem words_length (s : List Byte) : (words s).length = s.length / 2 := by
  induction s using words.induct with
  | case1 hi lo rest ih => simp only [words_cons, List.length_cons, ih]; omega
  | case2 b => simp
  | case3 => rfl

/-- Word `m` is bytes `2m` and `2m + 1`, high byte first (40 R113). -/
theorem words_getElem? {s : List Byte} {m : Nat} {hi lo : Byte} (hhi : s[2 * m]? = some hi)
    (hlo : s[2 * m + 1]? = some lo) : (words s)[m]? = some (be16 hi lo) := by
  induction m generalizing s with
  | zero =>
    match s with
    | a :: b :: rest => simp_all
    | [a] => cases hlo
    | [] => cases hlo
  | succ m ih =>
    match s with
    | a :: b :: rest => exact ih (s := rest) hhi hlo
    | [a] => cases hlo
    | [] => cases hlo

/-- Settles O17. -/
theorem wordsPairBigEndian : Obligations.WordsPairBigEndian :=
  fun s => ⟨words_length s, fun _ _ _ => words_getElem?⟩

/-- Settles O18: BYTES makes an even number of bytes, and of an even number WORDS drops none. -/
theorem bytesInvertWords : Obligations.BytesInvertWords := by
  refine ⟨fun ws => ⟨words_bytesOf ws, bytesOf_length ws⟩, fun s => ⟨fun h => ?_, fun h => ?_⟩⟩
  · have := bytesOf_length (words s)
    rw [h] at this
    omega
  · exact (bytesOf_words (k := s.length / 2) (by omega)).1

/-- Settles O9. -/
theorem tagWordAssembly : Obligations.TagWordAssembly :=
  ⟨fun hi lo => ⟨be16_toNat hi lo, be16_eq_shift_or hi lo, hi8_be16 hi lo, lo8_be16 hi lo⟩,
    fun w => ⟨hi8_toNat w, lo8_toNat w, be16_hi8_lo8 w⟩⟩

/-! ## The codec's operations -/

theorem immediate_of_idle {s : State} (t : State) (h : s.busy = false) : immediate s t = .next t := by
  simp [immediate, h]

/-- Settles O20. -/
theorem chk8Completes : Obligations.Chk8Completes := by
  intro s q hb
  exact ⟨_, immediate_of_idle _ hb, (Works.accumulator q).deliveredOnly _ _, accumulate_eq_sum8 q, rfl, rfl⟩

/-- Settles O21: the packer's run says what the working registers hold. -/
theorem encodeCompletes : Obligations.EncodeCompletes := by
  intro s p hb
  constructor <;> intro hp
  · exact ⟨_, (if_pos hp).trans (immediate_of_idle _ hb), (Works.packer p).deliveredOnly _ _,
      congrArg Packer.acc (packerRun_eq p), packerRun_cnt_toNat hp, rfl⟩
  · exact if_neg (Nat.not_le.mpr hp)

/-- Settles O22: the unpacker's run says what the working registers hold. -/
theorem decodeCompletes : Obligations.DecodeCompletes := by
  intro s f hb
  refine ⟨_, immediate_of_idle _ hb, ?_, congrArg Unpacker.acc (unpackerRun_eq f), ?_,
    congrArg Unpacker.lreg (unpackerRun_eq f)⟩
  · have h := (Works.unpacker (s := s) f).deliveredOnly (decodeFrame f).status (decodeData (decodeFrame f))
    cases hd : decodeFrame f <;> rw [hd] at h <;> exact h
  · exact (congrArg (fun u => u.cnt.toNat) (unpackerRun_eq f)).trans (Unpacker.after_cnt_toNat f)

/-- Settles O23. -/
theorem wordsAndBytesComplete : Obligations.WordsAndBytesComplete := by
  intro s hb
  refine ⟨fun q => ?_, fun ws hws => ?_, fun ws ⟨w, hw, hlt⟩ => ?_⟩
  · exact ⟨_, immediate_of_idle _ hb, Works.none.deliveredOnly _ _, rfl, rfl, rfl⟩
  · have hfit : ws.all fitsTagWord = true := by simpa using hws
    rw [← bytesOf_tagWords]
    exact ⟨_, (if_pos hfit).trans (immediate_of_idle _ hb), Works.none.deliveredOnly _ _, rfl, rfl, rfl⟩
  · have hfit : ¬ ws.all fitsTagWord = true := by
      simpa using ⟨w, hw, hlt⟩
    exact if_neg hfit

end Sys2Proof.Machine
end

section
/-! SUPPORT. The statements about SEND, GETLASTERROR and CREATE (41_command_channel). How an exchange
completes is said once for every operation with a SEND, by what the operation reads from the stripped reply, and SEND's
result once, by what DECODE makes of the answer. -/

namespace Sys2Proof.Machine

/-! ## A completed exchange -/

/-- An exchange delivers the verdict `v` of SEND's result, if `v` is the failure's own and reading a stripped reply
delivers `v` of it (30 R92). -/
theorem exchange_completes {s : State} {a c : List Byte} {o : Op} {ms : Nat} (v : Res (List Byte) → Delivery)
    (h : s.Answers a) (h2 : 2 ≤ c.length) (hm : c.length ≤ Config.payloadMax) (ht : ms < 2 ^ Config.timeoutBits)
    (herr : ∀ f, v (.err f) = ⟨.failed f, .none⟩)
    (hread : ∀ r b, sendResult c a = .ok r → EndsFrom s o c ms a b → b.op = o → b.cmd = c →
      ∃ t, finish r b = .next t ∧ Exchanged s t o c ms a (v (.ok r))) :
    ∃ t, exchange o c ms s = .next t ∧ Exchanged s t o c ms a (v (sendResult c a)) := by
  cases hr : sendResult c a with
  | err f =>
    obtain ⟨b, hb, he⟩ := exchange_fails h h2 hm ht hr
    exact ⟨_, he, herr f ▸ hb.errorEntry h f .none⟩
  | ok r =>
    obtain ⟨b, hb, ho, hc, he⟩ := exchange_reads h h2 hm ht hr
    rw [he]
    exact hread r b hr hb ho hc

/-- Settles O26: SEND hands the stripped reply back as it is. -/
theorem sendCompletes : Obligations.SendCompletes := by
  intro s a c ms h h2 hm ht
  refine exchange_completes (o := .send) plainVerdict h h2 hm ht (fun _ => rfl) fun r b _ hb ho _ => ?_
  exact ⟨b.succeed (.bytes r), by rw [finish, ho]; rfl, hb.succeed h _⟩

/-! ## SEND's result -/

/-- The correlation test passes where both sequences begin with the same two bytes (41 R134). -/
theorem echoes_iff {c p : List Byte} :
    echoes c p = true ↔ ∃ c0 c1 args r, c = c0 :: c1 :: args ∧ p = c0 :: c1 :: r := by
  constructor
  · intro h
    match c, p with
    | c0 :: c1 :: args, p0 :: p1 :: r =>
      rw [echoes_cons, Bool.and_eq_true, beq_iff_eq, beq_iff_eq] at h
      obtain ⟨rfl, rfl⟩ := h
      exact ⟨p0, p1, args, r, rfl, rfl⟩
    | [], _ | [_], _ | _ :: _ :: _, [] | _ :: _ :: _, [_] => simp [echoes] at h
  · rintro ⟨c0, c1, args, r, rfl, rfl⟩
    simp

/-- SEND succeeds where the answer decodes to the command's first two bytes and the reply it delivers (41 R135). -/
theorem sendResult_ok_iff {c a r : List Byte} :
    sendResult c a = .ok r ↔ ∃ c0 c1 args, c = c0 :: c1 :: args ∧ decodeFrame a = .ok (c0 :: c1 :: r) := by
  constructor
  · intro h
    unfold sendResult at h
    split at h
    · cases h
    · split at h
      · cases h
      · split at h
        · obtain ⟨c0, c1, args, r', rfl, rfl⟩ := echoes_iff.mp ‹_›
          cases h
          exact ⟨c0, c1, args, rfl, ‹_›⟩
        · cases h
  · rintro ⟨c0, c1, args, rfl, hd⟩
    have hne : a ≠ [] := by rintro rfl; cases hd
    simp [sendResult, hne, hd, stripEcho, Config.echoBytes]

/-- Settles O27: the reply is what follows the echo in RPL, and the second frame is the encoding of the echo alone. -/
theorem sendStripsEchoBytes : Obligations.SendStripsEchoBytes := by
  intro s a c0 c1 args r ms h hargs ht
  obtain ⟨t, he, hx⟩ := sendCompletes s a (c0 :: c1 :: args) ms h (Nat.le_add_left ..)
    (Nat.add_le_add_right hargs 2) ht
  have hok {q : List Byte} (hd : decodeFrame a = .ok (c0 :: c1 :: q)) :
      Exchanged s t .send (c0 :: c1 :: args) ms a ⟨.ok, .bytes q⟩ := by
    rwa [sendResult_ok_iff.mpr ⟨c0, c1, args, rfl, hd⟩] at hx
  constructor
  · intro hd
    have hrpl : t.rpl = c0 :: c1 :: r := (hok hd).rpl.trans (replyPayloadAfter_of_ok hd)
    have hlen : r.length + 2 ≤ 254 := decodeFrame_ok_length hd
    exact ⟨t, he, (hok hd).status, hrpl, (hok hd).delivered, by simp [hrpl], by omega⟩
  · intro ha
    have hd : decodeFrame a = .ok [c0, c1] := by rw [ha]; exact decodeFrame_encodeFrame (p := [c0, c1]) (by simp)
    exact ⟨t, he, (hok hd).delivered⟩

/-- The stripped reply is the answer from byte 4 to the checksum (41 R140). -/
theorem stripEcho_of_decodeFrame {f p : List Byte} (h : decodeFrame f = .ok p) :
    stripEcho p = slice f 4 (f.length - 1) := by
  obtain ⟨b, l, rest, -, -, -, rfl⟩ := decodeFrame_ok h
  rw [stripEcho, slice, slice, List.drop_take, List.drop_drop, Nat.sub_sub, Config.echoBytes]

/-- Settles O28: a delivered OK is SEND's success, so the answer is a frame that decodes to the echo and the reply. -/
theorem successfulSendGuarantees : Obligations.SuccessfulSendGuarantees := by
  intro s t a cmd ms h he hs
  obtain ⟨-, -, h2, hm, ht, -⟩ := exchange_next (o := .send) he
  obtain ⟨t', he', hx⟩ := sendCompletes s a cmd ms h h2 hm ht
  obtain rfl : t = t' := Host.Outcome.next.inj (he.symm.trans he')
  cases hr : sendResult cmd a with
  | err f => rw [hr] at hx; cases hs.symm.trans hx.status
  | ok r =>
    rw [hr] at hx
    obtain ⟨c0, c1, args, rfl, hd⟩ := sendResult_ok_iff.mp hr
    have hstrip : r = slice a 4 (a.length - 1) := stripEcho_of_decodeFrame hd
    have h0 := decodeFrame_ok_getElem? hd (i := 0) (by simp)
    have h1 := decodeFrame_ok_getElem? hd (i := 1) (by simp)
    have hplen := decodeFrame_ok_length_eq hd
    obtain ⟨b, l, rest, hf, hlen, hsum, -⟩ := decodeFrame_ok hd
    refine ⟨?_, ⟨l, by rw [hf]; rfl, hlen⟩, hsum, h0.symm, h1.symm, hstrip ▸ hx.delivered⟩
    simp only [List.length_cons] at hplen
    omega

/-! ## The two-step form -/

/-- With no answer listed an accepted SEND waits in XCHG (41 R141). -/
theorem exchange_waits {o : Op} {c : List Byte} {ms : Nat} {s : State} (hb : s.busy = false) (hr : s.ready = true)
    (ha : s.answers = []) (h2 : 2 ≤ c.length) (hm : c.length ≤ Config.payloadMax)
    (ht : ms < 2 ^ Config.timeoutBits) : exchange o c ms s = .next (s.issue o c ms).handOver := by
  rw [exchange_accepted hb hr h2 hm ht]
  obtain ⟨-, h⟩ | ⟨hne, -⟩ := runEnc_cases (s.issue o c ms)
  · exact h
  · exact absurd ha hne

/-- With an answer listed it goes on to the transport's answer. -/
theorem exchange_listed {o : Op} {c : List Byte} {ms : Nat} {s : State} (hb : s.busy = false) (hr : s.ready = true)
    (ha : s.answers ≠ []) (h2 : 2 ≤ c.length) (hm : c.length ≤ Config.payloadMax)
    (ht : ms < 2 ^ Config.timeoutBits) : exchange o c ms s = runXchg (s.issue o c ms).handOver := by
  rw [exchange_accepted hb hr h2 hm ht]
  obtain ⟨he, -⟩ | ⟨-, h⟩ := runEnc_cases (s.issue o c ms)
  · exact absurd he ha
  · exact h

/-- Settles O29. -/
theorem sendWaitsForTheTransport : Obligations.SendWaitsForTheTransport := by
  intro s i o c ms hx hw hb hr ha
  obtain ⟨h2, hm, ht⟩ := exchangeOf_wellFormed hx hw
  exact ⟨_, (exec_wellFormed hx hw).trans (exchange_waits hb hr ha h2 hm ht), rfl, rfl, rfl, rfl, rfl, rfl, rfl, rfl,
    rfl, rfl, rfl, rfl, ha, rfl, rfl, rfl, rfl⟩

/-- A block that waits in XCHG goes on with the transport's answer. -/
theorem step_of_xchg {s : State} (hb : s.busy = true) (hp : s.phase = .xchg) : step s = runXchg s := by
  rw [step, if_pos hb, resume, hp]

/-- Settles O30: listing the answer before issue or in the wait gives the same state in XCHG. -/
theorem twoStepFormEqualsOneStepForm : Obligations.TwoStepFormEqualsOneStepForm := by
  intro s w i a rest hx ha h
  obtain ⟨⟨o, c, ms⟩, hx⟩ := Option.isSome_iff_exists.mp hx
  obtain ⟨-, r, hr⟩ | he := exec_exchange hx
  · rw [hr] at h; cases h
  · rw [he] at h
    obtain ⟨hb, hr, h2, hm, ht, -⟩ := exchange_next h
    obtain rfl := Host.Outcome.next.inj (h.symm.trans (exchange_waits hb hr ha h2 hm ht))
    calc step { (s.issue o c ms).handOver with answers := a :: rest }
      _ = runXchg (({ s with answers := a :: rest } : State).issue o c ms).handOver := step_of_xchg rfl rfl
      _ = exchange o c ms { s with answers := a :: rest } :=
        (exchange_listed (s := { s with answers := a :: rest }) hb hr (List.cons_ne_nil a rest) h2 hm ht).symm
      _ = exec i { s with answers := a :: rest } := (he _).symm

/-! ## The end of a SEND in progress -/

/-- What a SEND of the operation `o` in progress answers: a next state, or GETVERSION's one refusal (42 R151). -/
def NextOrShortVersion (o : Op) (out : Out) : Prop :=
  (∃ t, out = .next t) ∨ (o = .getversion ∧ out = .refused .versionReplyTooShort)

theorem runCorr_total (s : State) : NextOrShortVersion s.op (runCorr s) := by
  unfold runCorr
  split
  · obtain h | ⟨ho, -, h⟩ := finish_total (stripEcho s.rpl) s
    · exact .inl h
    · exact .inr ⟨ho, h⟩
  · exact .inl ⟨_, rfl⟩

theorem runDec_total (s : State) : NextOrShortVersion s.op (runDec s) := by
  unfold runDec
  split
  · exact .inl ⟨_, rfl⟩
  · exact runCorr_total (s.toCorr _)

theorem runReceived_total (s : State) : NextOrShortVersion s.op (runReceived s) := by
  unfold runReceived
  split
  · exact .inl ⟨_, rfl⟩
  · exact runDec_total s.toDec

theorem runXchg_total (s : State) : NextOrShortVersion s.op (runXchg s) := by
  have h := runReceived_total (s.drawAnswer.receive s.answer)
  rwa [State.receive_op, State.drawAnswer_op] at h

theorem runEnc_total (s : State) : NextOrShortVersion s.op (runEnc s) := by
  obtain ⟨-, h⟩ | ⟨-, h⟩ := runEnc_cases s <;> rw [h]
  · exact .inl ⟨_, rfl⟩
  · exact runXchg_total s.handOver

theorem resume_total {s : State} (hp : s.phase ≠ .idle) : NextOrShortVersion s.op (resume s) := by
  unfold resume
  split
  · contradiction
  · exact runEnc_total s
  · exact runXchg_total s
  · exact runDec_total s
  · exact runCorr_total s

/-- From the wait in XCHG one step ends the SEND (41 R132). -/
theorem step_of_xchg_ends {s : State} (hb : s.busy = true) (hp : s.phase = .xchg) :
    (∃ u, step s = .next u ∧ u.busy = false) ∨ (s.op = .getversion ∧ step s = .refused .versionReplyTooShort) := by
  rw [step_of_xchg hb hp]
  refine (runXchg_total s).imp_left fun ⟨u, hu⟩ => ⟨u, hu, ?_⟩
  obtain ⟨v, -, hend⟩ := runXchg_ends .here hp hu
  obtain ⟨r, hc⟩ := hend.completed
  exact hc.busy

/-- Settles O31: a step that does not end the SEND hands its frame over, and the wait lasts one step. -/
theorem sendInProgressEnds : Obligations.SendInProgressEnds := by
  intro s hs hb
  have hstep : step s = resume s := if_pos hb
  rw [hstep]
  refine (resume_total (hs.busy_iff.mp hb)).imp_left fun ⟨t, h⟩ => ⟨t, h, ?_⟩
  obtain rfl | ⟨r, hc⟩ := (resume_next h).waits_or_completed
  · exact .inr ⟨rfl, rfl, step_of_xchg_ends hb rfl⟩
  · exact .inl hc.busy

/-! ## GETLASTERROR, the message texts and CREATE -/

/-- Settles O24. -/
theorem getLastErrorReportsAndKeeps : Obligations.GetLastErrorReportsAndKeeps :=
  ⟨fun _ hb => ⟨_, immediate_of_idle _ hb, Works.none.deliveredOnly _ _, rfl, rfl, rfl⟩, fun _ hb => if_pos hb, rfl⟩

/-- Settles O25: the fragment stands between the two free parts of its text. -/
theorem messagesContainFragments : Obligations.MessagesContainFragments :=
  ⟨⟨_, _, rfl⟩, ⟨_, _, rfl⟩, ⟨_, _, rfl⟩⟩

/-- Settles O32: the free values are within their sizes, as the invariant of CREATE's state says. -/
theorem createResetsTheChannel : Obligations.CreateResetsTheChannel := by
  intro s
  refine ⟨fun hb => ⟨s.createReset, immediate_of_idle _ hb, ?_⟩, fun hb => if_pos hb⟩
  have hinv := s.createReset_inv
  exact ⟨rfl, rfl, rfl, rfl, rfl, rfl, rfl, rfl, rfl, hinv.cmd_le, hinv.txf_le, hinv.rxf_le, hinv.rpl_le,
    hinv.timeout_lt⟩

end Sys2Proof.Machine
end

section
/-! SUPPORT. The statements about the reader commands (42_reader_commands). What an operation delivers is a function of
its kind, its command and the transport's answer, said once; each command's statement compares it with the spec's
verdict. -/

namespace Sys2Proof.Machine

/-! ## What an answered exchange delivers -/

/-- An operation ends with the delivery `d`: by success, or through the error entry (60 R190). -/
def State.endWith (s : State) (d : Delivery) : State :=
  match d.status with
  | .ok => s.succeed d.data
  | .failed f => s.errorEntry f d.data

/-- A delivery ends the operation; without one the reply is GETVERSION's refused one (42 R151). -/
def State.outcome (s : State) : Option Delivery → Out
  | some d => .next (s.endWith d)
  | none => .refused .versionReplyTooShort

/-- What the operation `o` of the command `cmd` delivers for the stripped reply `r` (42 R150 (f), R151 to R158). -/
def replyVerdict (o : Op) (cmd r : List Byte) : Option Delivery :=
  match o with
  | .send => some (plainVerdict (.ok r))
  | .raw => some (plainVerdict (.ok r))
  | .getversion =>
    match r with
    | major :: minor :: _ => some ⟨.ok, .version major minor⟩
    | _ => none
  | .stopcont => some (statusVerdict (.ok r))
  | .startcont => some (statusVerdict (.ok r))
  | .setbuzzer => some (statusVerdict (.ok r))
  | .identify => some (identifyVerdict (.ok r))
  | .readwords => some (cmd[2]?.elim ⟨.failed .tagNotFound, .words []⟩ fun bank => readVerdict bank.toNat (.ok r))
  | .writewords => some (writeVerdict (.ok r))

/-- What it delivers for the transport's answer `a` (42 R150 (b)). -/
def answerVerdict (o : Op) (c a : List Byte) : Option Delivery :=
  match sendResult c a with
  | .err f => some ⟨.failed f, .none⟩
  | .ok r => replyVerdict o c r

theorem answerVerdict_of_err {o : Op} {c a : List Byte} {f : Failure} (h : sendResult c a = .err f) :
    answerVerdict o c a = some ⟨.failed f, .none⟩ := by simp [answerVerdict, h]

theorem answerVerdict_of_ok {o : Op} {c a r : List Byte} (h : sendResult c a = .ok r) :
    answerVerdict o c a = replyVerdict o c r := by simp [answerVerdict, h]

/-- A verdict that hands SEND's failure on and agrees with the reading of the reply is what is delivered. -/
theorem answerVerdict_eq {o : Op} {c : List Byte} (v : Res (List Byte) → Delivery)
    (herr : ∀ f, v (.err f) = ⟨.failed f, .none⟩) (hok : ∀ r, replyVerdict o c r = some (v (.ok r)))
    (a : List Byte) : answerVerdict o c a = some (v (sendResult c a)) := by
  cases h : sendResult c a with
  | err f => rw [answerVerdict_of_err h, herr]
  | ok r => rw [answerVerdict_of_ok h, hok]

/-- The bank echo test (42 R156), on the byte and on its number. -/
theorem head?_eq_some_iff_toNat (r : List Byte) (b : Byte) :
    r.head? = some b ↔ r[0]?.map BitVec.toNat = some b.toNat := by
  cases r with
  | nil => simp
  | cons x r => simp [BitVec.toNat_inj]

theorem finishReadwords_eq_outcome (r : List Byte) (s : State) :
    finishReadwords r s = s.outcome (replyVerdict .readwords s.cmd r) := by
  rw [replyVerdict, finishReadwords]
  cases s.cmd[2]? with
  | none => rw [if_neg (by cases r <;> simp)]; rfl
  | some b =>
    rw [Option.elim_some, readVerdict]
    by_cases hb : r.head? = some b
    · rw [if_pos ⟨by simp [hb], hb⟩, if_pos ((head?_eq_some_iff_toNat r b).mp hb)]; rfl
    · rw [if_neg fun hh => hb hh.2, if_neg (mt (head?_eq_some_iff_toNat r b).mpr hb)]; rfl

/-- A one-byte test of the reply chooses between the two deliveries of formats RS, RI and RWS. -/
theorem outcome_ite (s : State) (p : Prop) [Decidable p] (d : Data) (f : Failure) (e : Data) :
    s.outcome (some (if p then ⟨.ok, d⟩ else ⟨.failed f, e⟩)) =
      .next (if p then s.succeed d else s.errorEntry f e) := by
  split <;> rfl

/-- Reading the reply ends the operation as `replyVerdict` says. -/
theorem finish_eq_outcome (r : List Byte) (s : State) : finish r s = s.outcome (replyVerdict s.op s.cmd r) := by
  rw [finish]
  cases s.op with
  | send | raw => rfl
  | getversion =>
    match r with
    | [] | [_] | _ :: _ :: _ => rfl
  | readwords => exact finishReadwords_eq_outcome r s
  | stopcont | startcont | setbuzzer =>
    simp only [replyVerdict, statusVerdict, outcome_ite, ← List.head?_eq_getElem?]; rfl
  | identify => simp only [replyVerdict, identifyVerdict, outcome_ite, ← List.head?_eq_getElem?]; rfl
  | writewords => simp only [replyVerdict, writeVerdict, outcome_ite, ← List.head?_eq_getElem?]; rfl

/-- An accepted SEND with a listed answer ends as `answerVerdict` says. -/
theorem exchange_eq_outcome {s : State} {a c : List Byte} {o : Op} {ms : Nat} (h : s.Answers a)
    (h2 : 2 ≤ c.length) (hm : c.length ≤ Config.payloadMax) (ht : ms < 2 ^ Config.timeoutBits) :
    ∃ b, EndsFrom s o c ms a b ∧ exchange o c ms s = b.outcome (answerVerdict o c a) := by
  cases hr : sendResult c a with
  | err f =>
    obtain ⟨b, hb, he⟩ := exchange_fails h h2 hm ht hr
    exact ⟨b, hb, he.trans (by rw [answerVerdict_of_err hr]; rfl)⟩
  | ok r =>
    obtain ⟨b, hb, ho, hc, he⟩ := exchange_reads (o := o) h h2 hm ht hr
    exact ⟨b, hb, he.trans (by rw [finish_eq_outcome, ho, hc, answerVerdict_of_ok hr])⟩

theorem EndsFrom.endWith {s b : State} {o : Op} {c a : List Byte} {ms : Nat} (h : s.Answers a)
    (hb : EndsFrom s o c ms a b) : (d : Delivery) → Exchanged s (b.endWith d) o c ms a d
  | ⟨.ok, d⟩ => hb.succeed h d
  | ⟨.failed f, d⟩ => hb.errorEntry h f d

/-- An answered exchange delivers its verdict, the whole next state with it. -/
theorem exchange_delivers {s : State} {a c : List Byte} {o : Op} {ms : Nat} {d : Delivery} (h : s.Answers a)
    (h2 : 2 ≤ c.length) (hm : c.length ≤ Config.payloadMax) (ht : ms < 2 ^ Config.timeoutBits)
    (hv : answerVerdict o c a = some d) : ∃ t, exchange o c ms s = .next t ∧ Exchanged s t o c ms a d := by
  obtain ⟨b, hb, he⟩ := exchange_eq_outcome (o := o) h h2 hm ht
  exact ⟨b.endWith d, by rw [he, hv]; rfl, hb.endWith h d⟩

/-- Without a verdict it is refused for a short version reply. -/
theorem exchange_refuses {s : State} {a c : List Byte} {o : Op} {ms : Nat} (h : s.Answers a)
    (h2 : 2 ≤ c.length) (hm : c.length ≤ Config.payloadMax) (ht : ms < 2 ^ Config.timeoutBits)
    (hv : answerVerdict o c a = none) : exchange o c ms s = .refused .versionReplyTooShort := by
  obtain ⟨b, -, he⟩ := exchange_eq_outcome (o := o) h h2 hm ht
  rw [he, hv]; rfl

/-- A well-formed operation with a SEND delivers its verdict (42 R150). -/
theorem exec_delivers {s : State} {i : Instr} {a c : List Byte} {o : Op} {ms : Nat} {d : Delivery}
    (hx : exchangeOf i = some (o, c, ms)) (hw : i.wellFormed = true) (h : s.Answers a)
    (hv : answerVerdict o c a = some d) : ∃ t, exec i s = .next t ∧ Exchanged s t o c ms a d := by
  obtain ⟨h2, hm, ht⟩ := exchangeOf_wellFormed hx hw
  rw [exec_wellFormed hx hw]
  exact exchange_delivers h h2 hm ht hv

/-! ## The reader commands -/

/-- Settles O33. -/
theorem statusCommandsComplete : Obligations.StatusCommandsComplete := by
  intro s a h
  have hv (o : Op) (c : List Byte) (ho : o = .stopcont ∨ o = .startcont ∨ o = .setbuzzer) :
      answerVerdict o c a = some (statusVerdict (sendResult c a)) :=
    answerVerdict_eq statusVerdict (fun _ => rfl) (fun _ => by obtain rfl | rfl | rfl := ho <;> rfl) a
  exact ⟨exec_delivers (i := .stopcont) rfl rfl h (hv _ _ (.inl rfl)),
    exec_delivers (i := .startcont) rfl rfl h (hv _ _ (.inr (.inl rfl))),
    fun mode hm => exec_delivers (i := .setbuzzer mode) rfl (decide_eq_true hm) h (hv _ _ (.inr (.inr rfl)))⟩

/-- Settles O34: the three cases are those of SEND's result and of the reply's first two bytes. -/
theorem getversionCompletes : Obligations.GetversionCompletes := by
  intro s a h
  refine ⟨fun f hr => ?_, fun major minor r hr => ?_, fun r hr hlen => ?_⟩
  · exact exec_delivers (i := .getversion) rfl rfl h (answerVerdict_of_err hr)
  · exact exec_delivers (i := .getversion) rfl rfl h (answerVerdict_of_ok hr)
  · obtain ⟨h2, hm, ht⟩ := exchangeOf_wellFormed (i := .getversion) rfl rfl
    refine exchange_refuses (o := .getversion) h h2 hm ht ((answerVerdict_of_ok hr).trans ?_)
    match r, hlen with
    | [], _ | [_], _ => rfl

/-- Settles O35. -/
theorem identifyCompletes : Obligations.IdentifyCompletes := fun _ a h =>
  exec_delivers (i := .identify) rfl rfl h (answerVerdict_eq identifyVerdict (fun _ => rfl) (fun _ => rfl) a)

/-- Settles O36: byte 2 of the command is the bank. -/
theorem readwordsCompletes : Obligations.ReadwordsCompletes := by
  intro s a bank addr n h hb ha hn c
  refine exec_delivers (i := .readwords bank addr n) rfl (by simp [Instr.wellFormed, fitsByte, hb, ha, hn]) h
    (answerVerdict_eq (readVerdict bank) (fun _ => rfl) (fun r => ?_) a)
  calc replyVerdict .readwords c r
    _ = some (readVerdict (BitVec.ofNat 8 bank).toNat (.ok r)) := rfl
    _ = some (readVerdict bank (.ok r)) := by rw [toNat_ofNat_byte hb]

/-- Settles O37. -/
theorem writewordsCompletes : Obligations.WritewordsCompletes := by
  intro s a bank addr data h hb ha hlen hdata c
  have hw : (Instr.writewords bank addr data).wellFormed = true := by
    simp only [Instr.wellFormed, fitsByte, fitsTagWord, hb, ha, Config.wordsMaxWrite, hlen, decide_true, Bool.true_and,
      List.all_eq_true, decide_eq_true_eq]
    exact hdata
  exact exec_delivers rfl hw h (answerVerdict_eq writeVerdict (fun _ => rfl) (fun _ => rfl) a)

theorem isRawOpcode_iff (op : Byte) : isRawOpcode op = true ↔ op = 0xFC ∨ op = 0xFF ∨ op = 0xA6 := by
  simp [isRawOpcode, or_assoc]

/-- Settles O38: one argument byte at least makes a command long enough, 253 at most one short enough. -/
theorem rawCommandsComplete : Obligations.RawCommandsComplete := by
  intro s a op args h h1 hm
  have hlen (b : Byte) : commandLengthOk (b :: args) = true := by
    simp [commandLengthOk, Config.payloadMax]; omega
  have hv (b : Byte) : answerVerdict .raw (b :: args) a = some (plainVerdict (sendResult (b :: args) a)) :=
    answerVerdict_eq plainVerdict (fun _ => rfl) (fun _ => rfl) a
  refine ⟨fun hop => ?_, fun hop => ?_, ?_, ?_, ?_⟩
  · have hw : (Instr.raw (op :: args)).wellFormed = true := by
      rw [Instr.wellFormed, hlen, Bool.true_and]
      exact (isRawOpcode_iff op).mpr hop
    exact exec_delivers rfl hw h (hv op)
  · exact if_neg (mt (isRawOpcode_iff op).mp hop)
  · exact exec_delivers (i := .rawA6 args) rfl (hlen _) h (hv _)
  · exact exec_delivers (i := .rawFC args) rfl (hlen _) h (hv _)
  · exact exec_delivers (i := .rawFF args) rfl (hlen _) h (hv _)

/-! ## The result depends on the answer alone -/

/-- `Exchanged` names the whole next state, so two operations that deliver the same differ in the latched
operation (log 9). -/
theorem Exchanged.eq_with_op {s t u : State} {o o' : Op} {c a : List Byte} {ms : Nat} {d : Delivery}
    (ht : Exchanged s t o c ms a d) (hu : Exchanged s u o' c ms a d) : u = { t with op := o' } := by
  cases t; cases u; cases ht; cases hu
  simp_all

/-- Settles O39: SEND and the operation deliver the same failure. -/
theorem readerCommandsShortCircuit : Obligations.ReaderCommandsShortCircuit := by
  intro s i o c a ms f hx hw h hr
  obtain ⟨h2, hm, ht⟩ := exchangeOf_wellFormed hx hw
  obtain ⟨t, he, hsend⟩ := exchange_delivers (o := .send) h h2 hm ht (answerVerdict_of_err hr)
  obtain ⟨u, hu, hop⟩ := exec_delivers hx hw h (answerVerdict_of_err hr)
  exact ⟨t, he, hsend.eq_with_op hop ▸ hu, hsend.delivered, hsend.lasterr⟩

/-- A command or timeout outside SEND's bounds is refused alike on every idle, ready block (41 R133 (c) to (e)). -/
theorem exchange_refused_of_operands (o : Op) {c : List Byte} {ms : Nat}
    (h : (commandLengthOk c && fitsTimeout ms) = false) :
    ∃ r, ∀ s : State, s.busy = false → s.ready = true → exchange o c ms s = .refused r := by
  by_cases h2 : c.length < 2
  · exact ⟨.commandTooShort, fun s hb hr => by simp [exchange, hb, hr, h2]⟩
  by_cases hm : Config.payloadMax < c.length
  · exact ⟨.commandTooLong, fun s hb hr => by simp only [exchange, hb, hr, if_neg h2, if_pos hm]; rfl⟩
  · have ht : fitsTimeout ms = false := by
      simpa [commandLengthOk, Nat.le_of_not_lt h2, Nat.le_of_not_lt hm] using h
    exact ⟨.timeoutTooWide, fun s hb hr => by simp only [exchange, hb, hr, if_neg h2, if_neg hm, ht]; rfl⟩

/-- Over all idle, ready blocks with the answer `a` an operation with a SEND delivers one result for one command, or is
refused alike. -/
theorem exec_answered {i : Instr} (hx : (exchangeOf i).isSome) (a : List Byte) :
    (∃ r, ∀ s : State, s.Answers a → exec i s = .refused r) ∨
    ∃ o c ms d, ∀ s : State, s.Answers a → ∃ t, exec i s = .next t ∧ Exchanged s t o c ms a d := by
  obtain ⟨⟨o, c, ms⟩, hx⟩ := Option.isSome_iff_exists.mp hx
  obtain ⟨-, r, hr⟩ | he := exec_exchange hx
  · exact .inl ⟨r, fun s _ => hr s⟩
  simp only [he]
  by_cases hok : (commandLengthOk c && fitsTimeout ms) = true
  · have hbounds := hok
    simp only [commandLengthOk, Bool.and_eq_true, decide_eq_true_eq, fitsTimeout_iff] at hbounds
    obtain ⟨⟨h2, hm⟩, ht⟩ := hbounds
    cases hv : answerVerdict o c a with
    | some d => exact .inr ⟨o, c, ms, d, fun s h => exchange_delivers h h2 hm ht hv⟩
    | none => exact .inl ⟨_, fun s h => exchange_refuses h h2 hm ht hv⟩
  · obtain ⟨r, hr⟩ := exchange_refused_of_operands o (Bool.not_eq_true _ ▸ hok)
    exact .inl ⟨r, fun s h => hr s h.idle h.ready⟩

/-- Settles O40. -/
theorem resultDependsOnlyOnTheAnswer : Obligations.ResultDependsOnlyOnTheAnswer := by
  intro s₁ s₂ i a hx h₁ h₂
  obtain ⟨r, hr⟩ | ⟨o, c, ms, d, hd⟩ := exec_answered hx a
  · exact ⟨fun t₁ he => (by cases (hr s₁ h₁).symm.trans he),
      fun r' he => (hr s₂ h₂).trans ((hr s₁ h₁).symm.trans he)⟩
  · obtain ⟨t₁, he₁, hx₁⟩ := hd s₁ h₁
    obtain ⟨t₂, he₂, hx₂⟩ := hd s₂ h₂
    refine ⟨fun t he => ?_, fun r he => (by cases he₁.symm.trans he)⟩
    obtain rfl : t₁ = t := Host.Outcome.next.inj (he₁.symm.trans he)
    exact ⟨t₂, d, _, he₂, hx₁.delivered, hx₂.delivered, hx₁.sent, hx₂.sent, hx₁.status.trans hx₂.status.symm⟩

/-! ## Ill-formed operands -/

/-- So they are refused in every state: a busy block or one that is not ready refuses first. -/
theorem exchange_refused (o : Op) {c : List Byte} {ms : Nat} (s : State)
    (h : (commandLengthOk c && fitsTimeout ms) = false) : ∃ r, exchange o c ms s = .refused r := by
  by_cases hb : s.busy = true
  · exact ⟨.busy, if_pos hb⟩
  by_cases hr : s.ready = true
  · obtain ⟨r, h⟩ := exchange_refused_of_operands o h
    exact ⟨r, h s (Bool.not_eq_true _ ▸ hb) hr⟩
  · exact ⟨.notReady, by simp [exchange, hb, hr]⟩

/-- Settles O56: of the operations that can be ill formed, each tests its own operands. -/
theorem outOfDomainOperandsRefused : Obligations.OutOfDomainOperandsRefused := by
  intro s i hw
  have hlen {c : List Byte} (h : commandLengthOk c = false) :
      (commandLengthOk c && fitsTimeout Config.defaultTimeoutMs) = false := by rw [h, Bool.false_and]
  cases i
  case readwords bank addr n => exact ⟨.operandNotAByte, if_neg (Bool.eq_false_iff.mp hw)⟩
  case setbuzzer mode => exact ⟨.operandNotAByte, if_neg (Bool.eq_false_iff.mp hw)⟩
  case encode payload => exact ⟨.payloadTooLong, if_neg (of_decide_eq_false hw)⟩
  case bytes ws => exact ⟨.notATagWord, if_neg (Bool.eq_false_iff.mp hw)⟩
  case reserved => exact ⟨.reservedOpsel, rfl⟩
  case rawA6 args => exact exchange_refused .raw s (hlen hw)
  case rawFC args => exact exchange_refused .raw s (hlen hw)
  case rawFF args => exact exchange_refused .raw s (hlen hw)
  case send c ms => exact exchange_refused .send s hw
  case raw cmd =>
    cases cmd with
    | nil => exact exchange_refused .raw s (hlen rfl)
    | cons op args =>
      by_cases hop : isRawOpcode op = true
      · have hl : commandLengthOk (op :: args) = false := by simpa [Instr.wellFormed, hop] using hw
        obtain ⟨r, hr⟩ := exchange_refused .raw s (hlen hl)
        exact ⟨r, (if_pos hop).trans hr⟩
      · exact ⟨.notRawOpcode, if_neg hop⟩
  case writewords bank addr data =>
    by_cases h1 : (!(fitsByte bank && fitsByte addr)) = true
    · exact ⟨.operandNotAByte, if_pos h1⟩
    by_cases h2 : Config.wordsMaxWrite < data.length
    · exact ⟨.tooManyWords, (if_neg h1).trans (if_pos h2)⟩
    · have h3 : (!data.all fitsTagWord) = true := by
        rw [Bool.not_eq_true, Bool.not_eq_false'] at h1
        simpa only [Instr.wellFormed, h1, Nat.le_of_not_lt h2, decide_true, Bool.true_and, Bool.not_eq_true'] using hw
      exact ⟨.notATagWord, (if_neg h1).trans ((if_neg h2).trans (if_pos h3))⟩
  all_goals cases hw

end Sys2Proof.Machine
end

section
/-! SUPPORT. The statements about the errors (60_exceptions). The order of the failures is that of SEND's result, read
off what DECODE makes of the answer; the error entry is said once for every step of a SEND in progress, and an operation
with a SEND is such a step from the state it has issued. -/

namespace Sys2Proof.Machine

/-! ## The empty answer -/

/-- Settles O43: SEND fails on the empty answer before any decoding, and DECODE, the only other operation that fails,
delivers a mismatch. -/
theorem emptyAnswerIsNoReply : Obligations.EmptyAnswerIsNoReply := by
  refine ⟨fun s i o c ms hx hw h => exec_delivers hx hw h (answerVerdict_of_err rfl), fun s t i hx h => ?_⟩
  obtain ⟨-, ⟨hi, -⟩ | ⟨u, k, d, hu, rfl, hk⟩⟩ := exec_immediate hx h
  · exact .inl hi
  · refine .inr ⟨⟨k, d⟩, (hu.deliveredOnly k d).delivered, rfl, ?_⟩
    obtain rfl | rfl | rfl := hk <;> simp

/-! ## The order of the failures -/

/-- SEND hands DECODE's failure on, but for the empty answer (41 R131 step 3). -/
theorem sendResult_of_decodeFrame_err {c a : List Byte} {f : Failure} (hne : a ≠ []) (h : decodeFrame a = .err f) :
    sendResult c a = .err f := by simp [sendResult, hne, h]

/-- On a decoded payload SEND's result is the correlation test's (41 R134). -/
theorem sendResult_of_decodeFrame_ok {c a p : List Byte} (h : decodeFrame a = .ok p) :
    sendResult c a = if echoes c p then .ok (stripEcho p) else .err .unsolicited := by
  have hne : a ≠ [] := by rintro rfl; cases h
  simp [sendResult, hne, h]

/-- For a command of SEND the correlation test compares the first two bytes of a payload that has them (92 D13). -/
theorem echoes_iff_take {c p : List Byte} (hc : 2 ≤ c.length) :
    echoes c p = true ↔ 2 ≤ p.length ∧ p.take 2 = c.take 2 := by
  match c, p, hc with
  | _ :: _ :: _, [], _ | _ :: _ :: _, [_], _ => simp [echoes]
  | _ :: _ :: _, _ :: _ :: _, _ => simp

/-- A message that its length byte, or its want of one, does not fit (40 R106, 92 D9). -/
theorem decodeFrame_of_length_mismatch {a : List Byte} (h : ∀ l, a[1]? = some l → a.length ≠ l.toNat + 2) :
    decodeFrame a = .err .lengthMismatch := by
  cases hl : a[1]? with
  | none => exact decodeFrame_of_length_lt (Nat.lt_succ_of_le (List.getElem?_eq_none_iff.mp hl))
  | some l => exact decodeFrame_of_length_ne hl (h l hl)

/-- Reading a reply raises the two domain kinds only, each for the three commands it belongs to (60 R186, R187). -/
theorem replyVerdict_status {o : Op} {cmd r : List Byte} {d : Delivery} (h : replyVerdict o cmd r = some d) :
    d.status = .ok ∨
    (d.status = .failed .commandRejected ∧ (o = .stopcont ∨ o = .startcont ∨ o = .setbuzzer)) ∨
    (d.status = .failed .tagNotFound ∧ (o = .identify ∨ o = .readwords ∨ o = .writewords)) := by
  cases o with
  | send | raw => cases h; exact .inl rfl
  | getversion =>
    match r, h with
    | _ :: _ :: _, rfl => exact .inl rfl
  | stopcont | startcont | setbuzzer | identify | writewords =>
    cases h
    simp only [statusVerdict, identifyVerdict, writeVerdict]
    split <;> simp
  | readwords =>
    cases h
    cases cmd[2]? with
    | none => simp
    | some bank =>
      rw [Option.elim_some, readVerdict]
      split <;> simp

section

variable {s : State} {i : Instr} {o : Op} {c a : List Byte} {ms : Nat}
  (hx : exchangeOf i = some (o, c, ms)) (hw : i.wellFormed = true) (h : s.Answers a)
include hx hw h

/-- Where SEND fails, a well-formed operation with a SEND reports the same kind (42 R150 (b)). -/
theorem exec_status_of_sendResult_err {f : Failure} (hr : sendResult c a = .err f) :
    ∃ t, exec i s = .next t ∧ t.status = .failed f := by
  obtain ⟨t, he, ht⟩ := exec_delivers hx hw h (answerVerdict_of_err hr)
  exact ⟨t, he, ht.status⟩

/-- Where SEND succeeds, it reports what reading the stripped reply delivers. -/
theorem exec_status_of_sendResult_ok {r : List Byte} {t : State} (hr : sendResult c a = .ok r)
    (he : exec i s = .next t) : ∃ d, replyVerdict o c r = some d ∧ t.status = d.status := by
  rw [← answerVerdict_of_ok hr]
  cases hv : answerVerdict o c a with
  | some d =>
    obtain ⟨t', he', ht⟩ := exec_delivers hx hw h hv
    obtain rfl := Host.Outcome.next.inj (he.symm.trans he')
    exact ⟨d, rfl, ht.status⟩
  | none =>
    obtain ⟨h2, hm, htime⟩ := exchangeOf_wellFormed hx hw
    cases ((exec_wellFormed hx hw).symm.trans he).symm.trans (exchange_refuses h h2 hm htime hv)

end

/-- Settles O44: each clause names SEND's result on its answers, and the operation reports what follows from it. -/
theorem failurePriority : Obligations.FailurePriority := by
  refine ⟨fun s i o c a ms hx hw h => ?_,
    fun s i hr => hr.elim (outOfDomainOperandsRefused s i) (exec_refused_of_busy i)⟩
  have hfails {f : Failure} := exec_status_of_sendResult_err (f := f) hx hw h
  obtain ⟨hc, -, -⟩ := exchangeOf_wellFormed hx hw
  refine ⟨?_, fun hne hlen => ?_, fun l hl hlen hsum => ?_, fun p hd hp => ?_, fun p t hd hp htake he => ?_⟩
  · rintro rfl
    exact hfails rfl
  · exact hfails (sendResult_of_decodeFrame_err hne (decodeFrame_of_length_mismatch hlen))
  · have hne : a ≠ [] := by rintro rfl; cases hl
    exact hfails (sendResult_of_decodeFrame_err hne (decodeFrame_of_sum_ne hl hlen hsum))
  · have hecho : ¬ echoes c p = true := by
      rw [echoes_iff_take hc, not_and_or, not_le]
      exact hp
    exact hfails ((sendResult_of_decodeFrame_ok hd).trans (if_neg hecho))
  · have hr := (sendResult_of_decodeFrame_ok hd).trans (if_pos ((echoes_iff_take hc).mpr ⟨hp, htake⟩))
    obtain ⟨d, hv, hs⟩ := exec_status_of_sendResult_ok hx hw h hr he
    exact hs ▸ replyVerdict_status hv

/-! ## The error entry -/

/-- From `s` to `t` an operation has ended in the failure `f`, or has delivered it. -/
def FailsWith (s t : State) (f : Failure) : Prop :=
  (t.busy = false ∧ t.status = .failed f) ∨ ∃ d, t.delivered = s.delivered ++ [⟨.failed f, d⟩]

/-- The one result of a completed SEND is the failure it ends in. -/
theorem Completed.status_of_failsWith {s t : State} {r : Delivery} {f : Failure} (h : Completed s t r)
    (hf : FailsWith s t f) : r.status = .failed f := by
  obtain ⟨-, hs⟩ | ⟨d, hd⟩ := hf
  · exact h.status.symm.trans hs
  · have hr : r = ⟨.failed f, d⟩ := by simpa using h.delivered.symm.trans hd
    rw [hr]

/-- A SEND ends with one result, and with a failure come the data of its operation (60 R190). -/
theorem Ended.completed_data {s t : State} (h : Ended s t) :
    ∃ r, Completed s t r ∧ ∀ f, r.status = .failed f → r.data = failureData s.op f := by
  obtain ⟨d, rfl⟩ | ⟨f, rfl⟩ := h
  · exact ⟨⟨.ok, d⟩, ⟨rfl, rfl, rfl, rfl, rfl⟩, by simp⟩
  · exact ⟨⟨.failed f, failureData s.op f⟩, ⟨rfl, rfl, rfl, rfl, rfl⟩, by rintro _ ⟨⟩; rfl⟩

/-- The step in which a SEND fails completes it with that failure and its data: the other step, to the wait in XCHG,
neither ends the SEND nor delivers. -/
theorem SendStep.completed_of_failsWith {s t : State} {f : Failure} (h : SendStep s t) (hb : s.busy = true)
    (hf : FailsWith s t f) : Completed s t ⟨.failed f, failureData s.op f⟩ := by
  obtain ⟨-, -, rfl⟩ | ⟨u, hu, he⟩ := h
  · simp [FailsWith, hb] at hf
  · obtain ⟨hl, hd, -⟩ := hu.lasterr_delivered_busy
    obtain ⟨r, hc, hdata⟩ := he.completed_data
    have hcs : Completed s t r := ⟨hc.busy, hc.phase, hc.status, hl ▸ hc.lasterr, hd ▸ hc.delivered⟩
    have hstatus := hcs.status_of_failsWith hf
    obtain rfl : r = ⟨.failed f, failureData s.op f⟩ := by
      rw [← hu.sameRequest.op, ← hdata f hstatus, ← hstatus]
    exact hcs

/-- Past ENC the frame has gone, and a SEND hands over no other (30 R92). -/
theorem SendPath.sent_of_phase_ne_enc {s u : State} (h : SendPath s u) (hp : s.phase ≠ .enc) : u.sent = s.sent := by
  obtain hs | ⟨henc, -, -⟩ := h.handsOver
  · exact hs
  · exact absurd henc hp

theorem Ended.sent {s t : State} (h : Ended s t) : t.sent = s.sent := by
  obtain ⟨_, rfl⟩ | ⟨_, rfl⟩ := h <;> rfl

/-- A step of a SEND in progress hands its frame over from ENC, and only from there, however the step ends. -/
theorem resume_sent {s t : State} (h : resume s = .next t) :
    t.sent = if s.phase = .enc then s.sent ++ [⟨encodeFrame s.cmd, s.timeout⟩] else s.sent := by
  by_cases hp : s.phase = .enc
  · rw [if_pos hp]
    rw [resume, hp] at h
    obtain ⟨-, he⟩ | ⟨-, he⟩ := runEnc_cases s
    · rw [Host.Outcome.next.inj (h.symm.trans he)]; rfl
    · obtain ⟨u, hu, hend⟩ := runXchg_ends .here rfl (he.symm.trans h)
      exact hend.sent.trans (hu.sent_of_phase_ne_enc nofun)
  · rw [if_neg hp]
    obtain ⟨henc, -, -⟩ | ⟨u, hu, hend⟩ := resume_next h
    · exact absurd henc hp
    · exact hend.sent.trans (hu.sent_of_phase_ne_enc hp)

/-- The error entry in a step of a SEND in progress (60 R190). -/
theorem resume_errorEntry {s t : State} {f : Failure} (hb : s.busy = true) (h : resume s = .next t)
    (hf : FailsWith s t f) :
    t.lasterr = .failed f ∧ t.status = .failed f ∧ t.phase = .idle ∧ t.busy = false ∧
    t.delivered = s.delivered ++ [⟨.failed f, failureData s.op f⟩] ∧
    t.sent = if s.phase = .enc then s.sent ++ [⟨encodeFrame s.cmd, s.timeout⟩] else s.sent := by
  obtain ⟨hbusy, hphase, hstatus, hlast, hdel⟩ := (resume_next h).completed_of_failsWith hb hf
  exact ⟨hlast, hstatus, hphase, hbusy, hdel, resume_sent h⟩

/-- The step of an accepted operation with a SEND is the first one of the SEND it issues. -/
theorem exec_resumes {i : Instr} {o : Op} {c : List Byte} {ms : Nat} {s t : State}
    (hx : exchangeOf i = some (o, c, ms)) (h : exec i s = .next t) : resume (s.issue o c ms) = .next t := by
  obtain ⟨-, r, hr⟩ | he := exec_exchange hx
  · cases (hr s).symm.trans h
  · obtain ⟨-, -, -, -, -, hrun⟩ := exchange_next ((he s).symm.trans h)
    exact hrun

/-- An operation without a SEND, other than CREATE, delivers its status and leaves LASTERR alone (90 C5). -/
theorem exec_keeps_lasterr {i : Instr} {s t : State} (hx : exchangeOf i = none) (hi : i ≠ .create)
    (h : exec i s = .next t) :
    t.lasterr = s.lasterr ∧ ∃ d, t.delivered = s.delivered ++ [d] ∧ t.status = d.status := by
  cases (exec_next h).2 with
  | sends o c ms hs => simp [hs] at hx
  | delivers r _ hd => exact ⟨hd.lasterr, r, hd.delivered, hd.status⟩
  | creates hc => exact absurd hc hi

/-- Settles O45: both steps are steps of a SEND in progress, the operation's own from the phase ENC of its issue. -/
theorem errorEntryRecordsTheKind : Obligations.ErrorEntryRecordsTheKind := by
  refine ⟨fun s t i o c ms f hx h hf => ?_, fun s t f hb h hf => ?_, fun s t p h => ?_⟩
  · exact resume_errorEntry (s := s.issue o c ms) rfl (exec_resumes hx h) hf
  · rw [step, if_pos hb] at h
    exact resume_errorEntry hb h hf
  · exact h.elim (exec_keeps_lasterr rfl nofun) (exec_keeps_lasterr rfl nofun)

end Sys2Proof.Machine
end

section
/-! SUPPORT. The statements about reset and hazards (70_reset_and_hazards): what an idle block finds at its ports where
it runs no operation. -/

namespace Sys2Proof.Machine

theorem State.dropInput_of_inputs_cons {s : State} {x : Input} {rest : List Input} (hs : s.inputs = x :: rest) :
    s.dropInput = { s with inputs := rest } := by
  rw [State.dropInput, hs, List.tail_cons]

theorem fetch_of_inputs_nil {s : State} (hs : s.inputs = []) : fetch s = .nothing := by
  simp [fetch, hs]

theorem fetch_of_readyLevel {s : State} {b : Bool} {rest : List Input} (hs : s.inputs = .readyLevel b :: rest) :
    fetch s = .level b := by
  simp [fetch, hs]

theorem fetch_of_rejected {s : State} {r : Request} {rest : List Input} {why : Reject}
    (hs : s.inputs = .request r :: rest) (hr : decodeRequest r = .reject why) : fetch s = .rejected why := by
  simp [fetch, hs, hr]

/-- Settles O48: the idle step turns on what it fetches, one case for each of the three inputs. -/
theorem stepWithoutAnOperation : Obligations.StepWithoutAnOperation := by
  intro s hb
  have hidle : ¬ s.busy = true := by simp [hb]
  refine ⟨fun hs => ?_, fun b rest hs => ?_, fun r rest why hs hr => ?_⟩
  · rw [step, if_neg hidle, fetch_of_inputs_nil hs]
  · rw [step, if_neg hidle, fetch_of_readyLevel hs, State.dropInput_of_inputs_cons hs]
    rfl
  · rw [step, if_neg hidle, fetch_of_rejected hs hr]

end Sys2Proof.Machine
end

section
/-! SUPPORT. The statements about the numeric codes: the select codes of H_REQ (30_encoding R93) and the kind codes of
STATUS and LASTERR (60_exceptions R181). -/

namespace Sys2Proof.Machine

/-- Settles O5: a request is its select code and its lanes, and with the code fixed the decoder computes. -/
theorem opselCodesSelectOperations : Obligations.OpselCodesSelectOperations := by
  rintro ⟨opsel, seq, words, mode, bank, addr, n, timeout⟩
  refine ⟨?_, ?_, ?_, ?_, ?_, ?_, ?_, ?_, ?_, ?_, ?_, ?_, ?_, ?_, ?_, ?_⟩ <;>
    · rintro rfl
      rfl

/-- The kind a code of R181 names; the codes 7 to 15, which are never produced (10_state R21), read as OK. -/
def Kind.ofCode (c : BitVec 4) : Kind :=
  match c.toNat with
  | 1 => .failed .noReply
  | 2 => .failed .lengthMismatch
  | 3 => .failed .checksumMismatch
  | 4 => .failed .unsolicited
  | 5 => .failed .commandRejected
  | 6 => .failed .tagNotFound
  | _ => .ok

@[simp] theorem Kind.ofCode_code (k : Kind) : Kind.ofCode k.code = k := by
  cases k with
  | ok => rfl
  | failed f => cases f <;> rfl

theorem Kind.code_injective : Function.Injective Kind.code :=
  Function.LeftInverse.injective Kind.ofCode_code

theorem Failure.code_toNat_le (f : Failure) : f.code.toNat ≤ 6 := by
  cases f <;> decide

theorem Kind.code_toNat_le (k : Kind) : k.code.toNat ≤ 6 := by
  cases k with
  | ok => exact Nat.zero_le 6
  | failed f => exact f.code_toNat_le

/-- Settles O42: the seven codes are read off their table; they are distinct because each names its kind. -/
theorem kindCodes : Obligations.KindCodes :=
  ⟨rfl, rfl, rfl, rfl, rfl, rfl, rfl, Kind.code_toNat_le, Kind.code_injective⟩

/-- Settles O57: the reserved select's meaning is the refusal (R93), and it reads nothing of the state. -/
theorem reservedSelectIsRefused : Obligations.ReservedSelectIsRefused :=
  fun _ => rfl

end Sys2Proof.Machine
end
